-- ==== Sys2Proof/Word.lean ====
section
/-!
DEFINITION. The words of the bus controller and the two-valued line states: bytes, bus addresses,
the three encoding formats BUS17, RX9 and SEQ3 (spec/30_encoding.md R80), the level of a line, the
bus direction, the electrical mode of the data pins, and a positive duration.
Bit 0 is the least significant bit everywhere and every value is unsigned (spec/00_scope.md R6);
the slice `v[hi:lo]` of the spec is `v.extractLsb hi lo`, and `{a, b}` is `a ++ b`.
-/

namespace Sys2Proof

/-- A data byte, a memory cell or a peripheral register: `DATA_W` = 8 (R5). -/
abbrev Byte := BitVec 8

/-- An address of the one 16-bit bus address space: `ADDR_W` = 16 (R5, R50). -/
abbrev Addr := BitVec 16

/-- A positive duration with no stated unit: the half-period of the clock pulse (R23, R104). A delay
of zero is outside the block's contract (R104, R211), so it is no value of this type. -/
abbrev Duration := PNat

/-- The level of a one-bit line or output: 0 = low, 1 = high (R22, R121). -/
inductive Level
  | low
  | high
  deriving DecidableEq, Repr, Inhabited

/-- The retained bus direction (R24): 1 = `CPU_READS`, 0 = `CPU_WRITES`. -/
inductive Dir
  | cpuWrites
  | cpuReads
  deriving DecidableEq, Repr

/-- The electrical mode of all eight data pins together (R25): 1 = `OUTPUT`, 0 = `INPUT`. -/
inductive PinMode
  | input
  | output
  deriving DecidableEq, Repr

/-- The direction a level of the read/write line stands for: 1 = the CPU reads (R121). -/
def Dir.ofLevel : Level → Dir
  | .low => .cpuWrites
  | .high => .cpuReads

/-- The bit `RW` of a BUS17 word for a stored direction (R81). -/
def Dir.bit : Dir → BitVec 1
  | .cpuWrites => 0#1
  | .cpuReads => 1#1

/-- "output when CPU-reads, input when CPU-writes" (R25). -/
def PinMode.ofDir : Dir → PinMode
  | .cpuWrites => .input
  | .cpuReads => .output

/-- A word of one of the three formats (R80): the 17-bit bus word `{RW, A}` (R81), the 9-bit receive
word `{AVAIL, BYTE}` (R83), the 3-bit phase number (R84). -/
inductive Word
  | bus (w : BitVec 17)
  | rx (w : BitVec 9)
  | seq (w : BitVec 3)
  deriving DecidableEq, Repr

end Sys2Proof
end

