-- ==== Sys2Proof/Config.lean ====
section
/-!
DEFINITION. What is fixed for one build of the block and is not state: the address map's constants
and the OPEN byte codes (spec/00_scope.md R5), and the FREE values: what the environment presents
on the input lines once the stimulus script of a state is used up (spec/92_eei_decisions.md D24).
-/

namespace Sys2Proof

/-- The OPEN byte codes of R5. The source gives none of them a number (91_not_in_source.md N3), so a
state carries them (`Machine.State.params`), no step changes them, and a claim about every state is
a claim about every choice of them. -/
structure Params where
  /-- `DSP_CR_CODE`: the display-side code that sends CR and LF. -/
  dspCrCode : BitVec 7
  /-- `DSP_BS_CODE`: the display-side code that sends the erase byte. -/
  dspBsCode : BitVec 7
  /-- `TERM_CR`: first byte sent for a carriage return. -/
  termCr : Byte
  /-- `TERM_LF`: second byte sent for a carriage return. -/
  termLf : Byte
  /-- `TERM_BS`: byte sent for the display-side backspace code. -/
  termBs : Byte
  /-- `KBD_LF_BYTE`: inbound byte that is discarded. -/
  kbdLfByte : Byte
  /-- `KBD_DEL_BYTE`: inbound byte that is remapped. -/
  kbdDelByte : Byte
  /-- `KBD_ERASE_BYTE`: what the delete byte is remapped to. -/
  kbdEraseByte : Byte
  deriving DecidableEq, Repr

/-- The default column of R5 (92_eei_decisions.md D11). PRESUMED (log entry 3): the spec marks every
default as general knowledge; no rule depends on one. -/
def Params.default : Params where
  dspCrCode := 0x0D#7
  dspBsCode := 0x5F#7
  termCr := 0x0D#8
  termLf := 0x0A#8
  termBs := 0x08#8
  kbdLfByte := 0x0A#8
  kbdDelByte := 0x7F#8
  kbdEraseByte := 0x5F#8

/-- The two premises of D11 about the OPEN codes. R184 and R193 to R195 give a defined result
without them. -/
abbrev Params.wf (p : Params) : Prop :=
  p.dspCrCode ≠ p.dspBsCode ∧ p.kbdLfByte ≠ p.kbdDelByte

namespace Config

/-- `RAM2_BASE` (R5, fixed): bus address of `RAM2[0]`. -/
def ram2Base : Addr := 0xE000#16

/-- `ROM_BASE` (R5, fixed): bus address of `ROM[0]`. -/
def romBase : Addr := 0xFF00#16

/-- `RAM1_SIZE` and `RAM2_SIZE` (R5, fixed). -/
def ramSize : Nat := 4096

/-- `ROM_SIZE` (R5, fixed). -/
def romSize : Nat := 256

/-- `KBD_DATA_ADDR` (R5, fixed). -/
def kbdDataAddr : Addr := 0xD010#16

/-- `KBD_STATUS_ADDR` (R5, fixed). -/
def kbdStatusAddr : Addr := 0xD011#16

/-- `DSP_DATA_ADDR` (R5, fixed). -/
def dspDataAddr : Addr := 0xD012#16

/-- `DSP_STATUS_ADDR` (R5, fixed). -/
def dspStatusAddr : Addr := 0xD013#16

/-- What a cell of a bank reads as when the bank's list has no entry for it. DESIGN CHOICE (log
entry 2): the bytes of the parameters `ROM_IMAGE`, `RAM1_INIT` and `RAM2_INIT` are open (D8), and
any of them is written as a list over this one byte. -/
def unlistedByte : Byte := 0x00#8

/-- FREE (log entry 5): the half-period presented at P0 of the n-th cycle after the script. -/
opaque freeHalfPeriod : Nat → Duration

/-- FREE (log entry 5): the level of the read/write line at P2 of the n-th cycle. -/
opaque freeRw : Nat → Level

/-- FREE (log entry 5): the address lines at P5 of the n-th cycle. -/
opaque freeAddr : Nat → Addr

/-- FREE (log entry 5): the data lines at P6 of the n-th cycle. -/
opaque freeData : Nat → Byte

/-- FREE (log entry 5): the bytes the terminal adds to `RX` for the n-th cycle. -/
opaque freeRx : Nat → List Byte

end Config

end Sys2Proof
end

