-- ==== Sys2Proof/Syntax.lean ====
section
/-!
DEFINITION. The operations of the block, one constructor for each of the 64 rows of
spec/opcode_table.json: 52 of format BUS17, 4 of format RX9, 8 of format SEQ3 (spec/30_encoding.md
R80, R86 to R89). An operand is exactly the field of the word that the row leaves open: a bank
index (IDX12, IDX8, R85), the low bits of an address inside an unmapped or unused block (R87), the
inbound byte (R195). The byte a write cycle stores is no part of the word: it is sampled (R82).
-/

namespace Sys2Proof

/-- One operation of the block. -/
inductive Instr
  /-- `RD_RAM1`: BUS17 `1 0000 iiii iiii iiii`, 0x0000-0x0FFF (R164). -/
  | rdRam1 (i : BitVec 12)
  /-- `WR_RAM1`: BUS17 `0 0000 iiii iiii iiii`, 0x0000-0x0FFF (R160). -/
  | wrRam1 (i : BitVec 12)
  /-- `RD_RAM2`: BUS17 `1 1110 iiii iiii iiii`, 0xE000-0xEFFF (R165). -/
  | rdRam2 (i : BitVec 12)
  /-- `WR_RAM2`: BUS17 `0 1110 iiii iiii iiii`, 0xE000-0xEFFF (R161). -/
  | wrRam2 (i : BitVec 12)
  /-- `RD_ROM`: BUS17 `1 1111 1111 iiii iiii`, 0xFF00-0xFFFF (R166). -/
  | rdRom (i : BitVec 8)
  /-- `WR_ROM`: BUS17 `0 1111 1111 iiii iiii`, 0xFF00-0xFFFF (R162). -/
  | wrRom (i : BitVec 8)
  /-- `RD_KBD_DATA`: BUS17 `1 1101 0000 0001 0000`, 0xD010-0xD010 (R186). -/
  | rdKbdData
  /-- `WR_KBD_DATA`: BUS17 `0 1101 0000 0001 0000`, 0xD010-0xD010 (R181). -/
  | wrKbdData
  /-- `RD_KBD_STATUS`: BUS17 `1 1101 0000 0001 0001`, 0xD011-0xD011 (R187). -/
  | rdKbdStatus
  /-- `WR_KBD_STATUS`: BUS17 `0 1101 0000 0001 0001`, 0xD011-0xD011 (R182). -/
  | wrKbdStatus
  /-- `RD_DSP_DATA`: BUS17 `1 1101 0000 0001 0010`, 0xD012-0xD012 (R188). -/
  | rdDspData
  /-- `WR_DSP_DATA`: BUS17 `0 1101 0000 0001 0010`, 0xD012-0xD012 (R183). -/
  | wrDspData
  /-- `RD_DSP_STATUS`: BUS17 `1 1101 0000 0001 0011`, 0xD013-0xD013 (R189). -/
  | rdDspStatus
  /-- `WR_DSP_STATUS`: BUS17 `0 1101 0000 0001 0011`, 0xD013-0xD013 (R185). -/
  | wrDspStatus
  /-- `RD_PIA_UNUSED_D000`: BUS17 `1 1101 0000 0000 xxxx`, 0xD000-0xD00F (R190). -/
  | rdPiaUnusedD000 (x : BitVec 4)
  /-- `WR_PIA_UNUSED_D000`: BUS17 `0 1101 0000 0000 xxxx`, 0xD000-0xD00F (R191). -/
  | wrPiaUnusedD000 (x : BitVec 4)
  /-- `RD_PIA_UNUSED_D014`: BUS17 `1 1101 0000 0001 01xx`, 0xD014-0xD017 (R190). -/
  | rdPiaUnusedD014 (x : BitVec 2)
  /-- `WR_PIA_UNUSED_D014`: BUS17 `0 1101 0000 0001 01xx`, 0xD014-0xD017 (R191). -/
  | wrPiaUnusedD014 (x : BitVec 2)
  /-- `RD_PIA_UNUSED_D018`: BUS17 `1 1101 0000 0001 1xxx`, 0xD018-0xD01F (R190). -/
  | rdPiaUnusedD018 (x : BitVec 3)
  /-- `WR_PIA_UNUSED_D018`: BUS17 `0 1101 0000 0001 1xxx`, 0xD018-0xD01F (R191). -/
  | wrPiaUnusedD018 (x : BitVec 3)
  /-- `RD_PIA_UNUSED_D020`: BUS17 `1 1101 0000 001x xxxx`, 0xD020-0xD03F (R190). -/
  | rdPiaUnusedD020 (x : BitVec 5)
  /-- `WR_PIA_UNUSED_D020`: BUS17 `0 1101 0000 001x xxxx`, 0xD020-0xD03F (R191). -/
  | wrPiaUnusedD020 (x : BitVec 5)
  /-- `RD_PIA_UNUSED_D040`: BUS17 `1 1101 0000 01xx xxxx`, 0xD040-0xD07F (R190). -/
  | rdPiaUnusedD040 (x : BitVec 6)
  /-- `WR_PIA_UNUSED_D040`: BUS17 `0 1101 0000 01xx xxxx`, 0xD040-0xD07F (R191). -/
  | wrPiaUnusedD040 (x : BitVec 6)
  /-- `RD_PIA_UNUSED_D080`: BUS17 `1 1101 0000 1xxx xxxx`, 0xD080-0xD0FF (R190). -/
  | rdPiaUnusedD080 (x : BitVec 7)
  /-- `WR_PIA_UNUSED_D080`: BUS17 `0 1101 0000 1xxx xxxx`, 0xD080-0xD0FF (R191). -/
  | wrPiaUnusedD080 (x : BitVec 7)
  /-- `RD_PIA_UNUSED_D100`: BUS17 `1 1101 0001 xxxx xxxx`, 0xD100-0xD1FF (R190). -/
  | rdPiaUnusedD100 (x : BitVec 8)
  /-- `WR_PIA_UNUSED_D100`: BUS17 `0 1101 0001 xxxx xxxx`, 0xD100-0xD1FF (R191). -/
  | wrPiaUnusedD100 (x : BitVec 8)
  /-- `RD_PIA_UNUSED_D200`: BUS17 `1 1101 001x xxxx xxxx`, 0xD200-0xD3FF (R190). -/
  | rdPiaUnusedD200 (x : BitVec 9)
  /-- `WR_PIA_UNUSED_D200`: BUS17 `0 1101 001x xxxx xxxx`, 0xD200-0xD3FF (R191). -/
  | wrPiaUnusedD200 (x : BitVec 9)
  /-- `RD_PIA_UNUSED_D400`: BUS17 `1 1101 01xx xxxx xxxx`, 0xD400-0xD7FF (R190). -/
  | rdPiaUnusedD400 (x : BitVec 10)
  /-- `WR_PIA_UNUSED_D400`: BUS17 `0 1101 01xx xxxx xxxx`, 0xD400-0xD7FF (R191). -/
  | wrPiaUnusedD400 (x : BitVec 10)
  /-- `RD_PIA_UNUSED_D800`: BUS17 `1 1101 1xxx xxxx xxxx`, 0xD800-0xDFFF (R190). -/
  | rdPiaUnusedD800 (x : BitVec 11)
  /-- `WR_PIA_UNUSED_D800`: BUS17 `0 1101 1xxx xxxx xxxx`, 0xD800-0xDFFF (R191). -/
  | wrPiaUnusedD800 (x : BitVec 11)
  /-- `RD_UNMAPPED_1000`: BUS17 `1 0001 xxxx xxxx xxxx`, 0x1000-0x1FFF (R167). -/
  | rdUnmapped1000 (x : BitVec 12)
  /-- `WR_UNMAPPED_1000`: BUS17 `0 0001 xxxx xxxx xxxx`, 0x1000-0x1FFF (R163). -/
  | wrUnmapped1000 (x : BitVec 12)
  /-- `RD_UNMAPPED_2000`: BUS17 `1 001x xxxx xxxx xxxx`, 0x2000-0x3FFF (R167). -/
  | rdUnmapped2000 (x : BitVec 13)
  /-- `WR_UNMAPPED_2000`: BUS17 `0 001x xxxx xxxx xxxx`, 0x2000-0x3FFF (R163). -/
  | wrUnmapped2000 (x : BitVec 13)
  /-- `RD_UNMAPPED_4000`: BUS17 `1 01xx xxxx xxxx xxxx`, 0x4000-0x7FFF (R167). -/
  | rdUnmapped4000 (x : BitVec 14)
  /-- `WR_UNMAPPED_4000`: BUS17 `0 01xx xxxx xxxx xxxx`, 0x4000-0x7FFF (R163). -/
  | wrUnmapped4000 (x : BitVec 14)
  /-- `RD_UNMAPPED_8000`: BUS17 `1 10xx xxxx xxxx xxxx`, 0x8000-0xBFFF (R167). -/
  | rdUnmapped8000 (x : BitVec 14)
  /-- `WR_UNMAPPED_8000`: BUS17 `0 10xx xxxx xxxx xxxx`, 0x8000-0xBFFF (R163). -/
  | wrUnmapped8000 (x : BitVec 14)
  /-- `RD_UNMAPPED_C000`: BUS17 `1 1100 xxxx xxxx xxxx`, 0xC000-0xCFFF (R167). -/
  | rdUnmappedC000 (x : BitVec 12)
  /-- `WR_UNMAPPED_C000`: BUS17 `0 1100 xxxx xxxx xxxx`, 0xC000-0xCFFF (R163). -/
  | wrUnmappedC000 (x : BitVec 12)
  /-- `RD_UNMAPPED_F000`: BUS17 `1 1111 0xxx xxxx xxxx`, 0xF000-0xF7FF (R167). -/
  | rdUnmappedF000 (x : BitVec 11)
  /-- `WR_UNMAPPED_F000`: BUS17 `0 1111 0xxx xxxx xxxx`, 0xF000-0xF7FF (R163). -/
  | wrUnmappedF000 (x : BitVec 11)
  /-- `RD_UNMAPPED_F800`: BUS17 `1 1111 10xx xxxx xxxx`, 0xF800-0xFBFF (R167). -/
  | rdUnmappedF800 (x : BitVec 10)
  /-- `WR_UNMAPPED_F800`: BUS17 `0 1111 10xx xxxx xxxx`, 0xF800-0xFBFF (R163). -/
  | wrUnmappedF800 (x : BitVec 10)
  /-- `RD_UNMAPPED_FC00`: BUS17 `1 1111 110x xxxx xxxx`, 0xFC00-0xFDFF (R167). -/
  | rdUnmappedFC00 (x : BitVec 9)
  /-- `WR_UNMAPPED_FC00`: BUS17 `0 1111 110x xxxx xxxx`, 0xFC00-0xFDFF (R163). -/
  | wrUnmappedFC00 (x : BitVec 9)
  /-- `RD_UNMAPPED_FE00`: BUS17 `1 1111 1110 xxxx xxxx`, 0xFE00-0xFEFF (R167). -/
  | rdUnmappedFE00 (x : BitVec 8)
  /-- `WR_UNMAPPED_FE00`: BUS17 `0 1111 1110 xxxx xxxx`, 0xFE00-0xFEFF (R163). -/
  | wrUnmappedFE00 (x : BitVec 8)
  /-- `KBD_NONE`: RX9 `0 xxxx xxxx` (R192). -/
  | kbdNone
  /-- `KBD_LF`: RX9 `{1, KBD_LF_BYTE}` (R193). -/
  | kbdLf
  /-- `KBD_DEL`: RX9 `{1, KBD_DEL_BYTE}` (R194). -/
  | kbdDel
  /-- `KBD_CHAR`: RX9 `1 bbbb bbbb` (R195). -/
  | kbdChar (b : BitVec 8)
  /-- `P0_CLK_LOW`: SEQ3 `000` (R102). -/
  | p0ClkLow
  /-- `P1_WAIT_LOW`: SEQ3 `001` (R104). -/
  | p1WaitLow
  /-- `P2_DIR_UPDATE`: SEQ3 `010` (R122). -/
  | p2DirUpdate
  /-- `P3_CLK_HIGH`: SEQ3 `011` (R105). -/
  | p3ClkHigh
  /-- `P4_WAIT_HIGH`: SEQ3 `100` (R104). -/
  | p4WaitHigh
  /-- `P5_ADDR_SAMPLE`: SEQ3 `101` (R120). -/
  | p5AddrSample
  /-- `P6_DISPATCH`: SEQ3 `110` (R126). -/
  | p6Dispatch
  /-- `P7_KBD_POLL`: SEQ3 `111` (R200). -/
  | p7KbdPoll
  deriving DecidableEq, Repr

/-- The row's mnemonic in spec/opcode_table.json. -/
def Instr.mnemonic : Instr → String
  | .rdRam1 _ => "RD_RAM1"
  | .wrRam1 _ => "WR_RAM1"
  | .rdRam2 _ => "RD_RAM2"
  | .wrRam2 _ => "WR_RAM2"
  | .rdRom _ => "RD_ROM"
  | .wrRom _ => "WR_ROM"
  | .rdKbdData => "RD_KBD_DATA"
  | .wrKbdData => "WR_KBD_DATA"
  | .rdKbdStatus => "RD_KBD_STATUS"
  | .wrKbdStatus => "WR_KBD_STATUS"
  | .rdDspData => "RD_DSP_DATA"
  | .wrDspData => "WR_DSP_DATA"
  | .rdDspStatus => "RD_DSP_STATUS"
  | .wrDspStatus => "WR_DSP_STATUS"
  | .rdPiaUnusedD000 _ => "RD_PIA_UNUSED_D000"
  | .wrPiaUnusedD000 _ => "WR_PIA_UNUSED_D000"
  | .rdPiaUnusedD014 _ => "RD_PIA_UNUSED_D014"
  | .wrPiaUnusedD014 _ => "WR_PIA_UNUSED_D014"
  | .rdPiaUnusedD018 _ => "RD_PIA_UNUSED_D018"
  | .wrPiaUnusedD018 _ => "WR_PIA_UNUSED_D018"
  | .rdPiaUnusedD020 _ => "RD_PIA_UNUSED_D020"
  | .wrPiaUnusedD020 _ => "WR_PIA_UNUSED_D020"
  | .rdPiaUnusedD040 _ => "RD_PIA_UNUSED_D040"
  | .wrPiaUnusedD040 _ => "WR_PIA_UNUSED_D040"
  | .rdPiaUnusedD080 _ => "RD_PIA_UNUSED_D080"
  | .wrPiaUnusedD080 _ => "WR_PIA_UNUSED_D080"
  | .rdPiaUnusedD100 _ => "RD_PIA_UNUSED_D100"
  | .wrPiaUnusedD100 _ => "WR_PIA_UNUSED_D100"
  | .rdPiaUnusedD200 _ => "RD_PIA_UNUSED_D200"
  | .wrPiaUnusedD200 _ => "WR_PIA_UNUSED_D200"
  | .rdPiaUnusedD400 _ => "RD_PIA_UNUSED_D400"
  | .wrPiaUnusedD400 _ => "WR_PIA_UNUSED_D400"
  | .rdPiaUnusedD800 _ => "RD_PIA_UNUSED_D800"
  | .wrPiaUnusedD800 _ => "WR_PIA_UNUSED_D800"
  | .rdUnmapped1000 _ => "RD_UNMAPPED_1000"
  | .wrUnmapped1000 _ => "WR_UNMAPPED_1000"
  | .rdUnmapped2000 _ => "RD_UNMAPPED_2000"
  | .wrUnmapped2000 _ => "WR_UNMAPPED_2000"
  | .rdUnmapped4000 _ => "RD_UNMAPPED_4000"
  | .wrUnmapped4000 _ => "WR_UNMAPPED_4000"
  | .rdUnmapped8000 _ => "RD_UNMAPPED_8000"
  | .wrUnmapped8000 _ => "WR_UNMAPPED_8000"
  | .rdUnmappedC000 _ => "RD_UNMAPPED_C000"
  | .wrUnmappedC000 _ => "WR_UNMAPPED_C000"
  | .rdUnmappedF000 _ => "RD_UNMAPPED_F000"
  | .wrUnmappedF000 _ => "WR_UNMAPPED_F000"
  | .rdUnmappedF800 _ => "RD_UNMAPPED_F800"
  | .wrUnmappedF800 _ => "WR_UNMAPPED_F800"
  | .rdUnmappedFC00 _ => "RD_UNMAPPED_FC00"
  | .wrUnmappedFC00 _ => "WR_UNMAPPED_FC00"
  | .rdUnmappedFE00 _ => "RD_UNMAPPED_FE00"
  | .wrUnmappedFE00 _ => "WR_UNMAPPED_FE00"
  | .kbdNone => "KBD_NONE"
  | .kbdLf => "KBD_LF"
  | .kbdDel => "KBD_DEL"
  | .kbdChar _ => "KBD_CHAR"
  | .p0ClkLow => "P0_CLK_LOW"
  | .p1WaitLow => "P1_WAIT_LOW"
  | .p2DirUpdate => "P2_DIR_UPDATE"
  | .p3ClkHigh => "P3_CLK_HIGH"
  | .p4WaitHigh => "P4_WAIT_HIGH"
  | .p5AddrSample => "P5_ADDR_SAMPLE"
  | .p6Dispatch => "P6_DISPATCH"
  | .p7KbdPoll => "P7_KBD_POLL"

end Sys2Proof
end

