-- ==== Sys2Proof/WellFormed.lean ====
section
/-!
DEFINITION. Which terms of `Instr` are operations of a build with given byte codes. Every operand of
a BUS17 or SEQ3 row is legal at every value (spec/30_encoding.md R90); the RX9 rows are told apart by
their conditions (spec/44_peripheral_register_file.md R193 to R195).
-/

namespace Sys2Proof

/-- The conditions of the RX9 rows: `KBD_DEL` needs a delete byte that is not the line-feed byte
(R194), `KBD_CHAR` a byte that is neither (R195). -/
def Instr.wf (p : Params) : Instr → Bool
  | .kbdDel => p.kbdDelByte != p.kbdLfByte
  | .kbdChar b => b != p.kbdLfByte && b != p.kbdDelByte
  | .rdRam1 _ => true
  | .wrRam1 _ => true
  | .rdRam2 _ => true
  | .wrRam2 _ => true
  | .rdRom _ => true
  | .wrRom _ => true
  | .rdKbdData => true
  | .wrKbdData => true
  | .rdKbdStatus => true
  | .wrKbdStatus => true
  | .rdDspData => true
  | .wrDspData => true
  | .rdDspStatus => true
  | .wrDspStatus => true
  | .rdPiaUnusedD000 _ => true
  | .wrPiaUnusedD000 _ => true
  | .rdPiaUnusedD014 _ => true
  | .wrPiaUnusedD014 _ => true
  | .rdPiaUnusedD018 _ => true
  | .wrPiaUnusedD018 _ => true
  | .rdPiaUnusedD020 _ => true
  | .wrPiaUnusedD020 _ => true
  | .rdPiaUnusedD040 _ => true
  | .wrPiaUnusedD040 _ => true
  | .rdPiaUnusedD080 _ => true
  | .wrPiaUnusedD080 _ => true
  | .rdPiaUnusedD100 _ => true
  | .wrPiaUnusedD100 _ => true
  | .rdPiaUnusedD200 _ => true
  | .wrPiaUnusedD200 _ => true
  | .rdPiaUnusedD400 _ => true
  | .wrPiaUnusedD400 _ => true
  | .rdPiaUnusedD800 _ => true
  | .wrPiaUnusedD800 _ => true
  | .rdUnmapped1000 _ => true
  | .wrUnmapped1000 _ => true
  | .rdUnmapped2000 _ => true
  | .wrUnmapped2000 _ => true
  | .rdUnmapped4000 _ => true
  | .wrUnmapped4000 _ => true
  | .rdUnmapped8000 _ => true
  | .wrUnmapped8000 _ => true
  | .rdUnmappedC000 _ => true
  | .wrUnmappedC000 _ => true
  | .rdUnmappedF000 _ => true
  | .wrUnmappedF000 _ => true
  | .rdUnmappedF800 _ => true
  | .wrUnmappedF800 _ => true
  | .rdUnmappedFC00 _ => true
  | .wrUnmappedFC00 _ => true
  | .rdUnmappedFE00 _ => true
  | .wrUnmappedFE00 _ => true
  | .kbdNone => true
  | .kbdLf => true
  | .p0ClkLow => true
  | .p1WaitLow => true
  | .p2DirUpdate => true
  | .p3ClkHigh => true
  | .p4WaitHigh => true
  | .p5AddrSample => true
  | .p6Dispatch => true
  | .p7KbdPoll => true

end Sys2Proof
end

