-- ==== Sys2Proof/Decode.lean ====
section
/-!
DEFINITION. The decoder of the three formats (spec/30_encoding.md R86 to R89), total on every word
(R90, R91), and after it the encoder, written from the "encoding" column of spec/opcode_table.json;
then the rows of that table as data, for the statements that they and the decoder agree (R87, R91).
-/

namespace Sys2Proof

/-- The row of a block of addresses for the bit `RW` (R86): `RD_` for 1, `WR_` for 0. -/
def byRw (rw : Bool) (read write : Instr) : Instr := if rw then read else write

/-- Decoding of a BUS17 word (R86, R87): the bits above a row's operand select the row. The tests
are mutually exclusive and exhaust the addresses; their order does not matter. -/
def decodeBus (w : BitVec 17) : Instr :=
  let rw := w.getLsbD 16
  let a := w.extractLsb 15 0
  if a.extractLsb 15 12 = 0x0#4 then byRw rw (.rdRam1 (a.extractLsb 11 0)) (.wrRam1 (a.extractLsb 11 0))
  else if a.extractLsb 15 12 = 0xE#4 then byRw rw (.rdRam2 (a.extractLsb 11 0)) (.wrRam2 (a.extractLsb 11 0))
  else if a.extractLsb 15 8 = 0xFF#8 then byRw rw (.rdRom (a.extractLsb 7 0)) (.wrRom (a.extractLsb 7 0))
  else if a = 0xD010#16 then byRw rw .rdKbdData .wrKbdData
  else if a = 0xD011#16 then byRw rw .rdKbdStatus .wrKbdStatus
  else if a = 0xD012#16 then byRw rw .rdDspData .wrDspData
  else if a = 0xD013#16 then byRw rw .rdDspStatus .wrDspStatus
  else if a.extractLsb 15 4 = 0xD00#12 then byRw rw (.rdPiaUnusedD000 (a.extractLsb 3 0)) (.wrPiaUnusedD000 (a.extractLsb 3 0))
  else if a.extractLsb 15 2 = 0x3405#14 then byRw rw (.rdPiaUnusedD014 (a.extractLsb 1 0)) (.wrPiaUnusedD014 (a.extractLsb 1 0))
  else if a.extractLsb 15 3 = 0x1A03#13 then byRw rw (.rdPiaUnusedD018 (a.extractLsb 2 0)) (.wrPiaUnusedD018 (a.extractLsb 2 0))
  else if a.extractLsb 15 5 = 0x681#11 then byRw rw (.rdPiaUnusedD020 (a.extractLsb 4 0)) (.wrPiaUnusedD020 (a.extractLsb 4 0))
  else if a.extractLsb 15 6 = 0x341#10 then byRw rw (.rdPiaUnusedD040 (a.extractLsb 5 0)) (.wrPiaUnusedD040 (a.extractLsb 5 0))
  else if a.extractLsb 15 7 = 0x1A1#9 then byRw rw (.rdPiaUnusedD080 (a.extractLsb 6 0)) (.wrPiaUnusedD080 (a.extractLsb 6 0))
  else if a.extractLsb 15 8 = 0xD1#8 then byRw rw (.rdPiaUnusedD100 (a.extractLsb 7 0)) (.wrPiaUnusedD100 (a.extractLsb 7 0))
  else if a.extractLsb 15 9 = 0x69#7 then byRw rw (.rdPiaUnusedD200 (a.extractLsb 8 0)) (.wrPiaUnusedD200 (a.extractLsb 8 0))
  else if a.extractLsb 15 10 = 0x35#6 then byRw rw (.rdPiaUnusedD400 (a.extractLsb 9 0)) (.wrPiaUnusedD400 (a.extractLsb 9 0))
  else if a.extractLsb 15 11 = 0x1B#5 then byRw rw (.rdPiaUnusedD800 (a.extractLsb 10 0)) (.wrPiaUnusedD800 (a.extractLsb 10 0))
  else if a.extractLsb 15 12 = 0x1#4 then byRw rw (.rdUnmapped1000 (a.extractLsb 11 0)) (.wrUnmapped1000 (a.extractLsb 11 0))
  else if a.extractLsb 15 13 = 0x1#3 then byRw rw (.rdUnmapped2000 (a.extractLsb 12 0)) (.wrUnmapped2000 (a.extractLsb 12 0))
  else if a.extractLsb 15 14 = 0x1#2 then byRw rw (.rdUnmapped4000 (a.extractLsb 13 0)) (.wrUnmapped4000 (a.extractLsb 13 0))
  else if a.extractLsb 15 14 = 0x2#2 then byRw rw (.rdUnmapped8000 (a.extractLsb 13 0)) (.wrUnmapped8000 (a.extractLsb 13 0))
  else if a.extractLsb 15 12 = 0xC#4 then byRw rw (.rdUnmappedC000 (a.extractLsb 11 0)) (.wrUnmappedC000 (a.extractLsb 11 0))
  else if a.extractLsb 15 11 = 0x1E#5 then byRw rw (.rdUnmappedF000 (a.extractLsb 10 0)) (.wrUnmappedF000 (a.extractLsb 10 0))
  else if a.extractLsb 15 10 = 0x3E#6 then byRw rw (.rdUnmappedF800 (a.extractLsb 9 0)) (.wrUnmappedF800 (a.extractLsb 9 0))
  else if a.extractLsb 15 9 = 0x7E#7 then byRw rw (.rdUnmappedFC00 (a.extractLsb 8 0)) (.wrUnmappedFC00 (a.extractLsb 8 0))
  else byRw rw (.rdUnmappedFE00 (a.extractLsb 7 0)) (.wrUnmappedFE00 (a.extractLsb 7 0))

/-- Decoding of an RX9 word (R88), tested in this order: no byte, the line-feed byte, the delete
byte, any other byte. The comparisons are on all eight bits of the raw byte. -/
def decodeRx (p : Params) (w : BitVec 9) : Instr :=
  let byte := w.extractLsb 7 0
  if w.getLsbD 8 = false then .kbdNone
  else if byte = p.kbdLfByte then .kbdLf
  else if byte = p.kbdDelByte then .kbdDel
  else .kbdChar byte

/-- Decoding of a phase number (R89). -/
def decodeSeq (w : BitVec 3) : Instr :=
  if w = 0#3 then .p0ClkLow
  else if w = 1#3 then .p1WaitLow
  else if w = 2#3 then .p2DirUpdate
  else if w = 3#3 then .p3ClkHigh
  else if w = 4#3 then .p4WaitHigh
  else if w = 5#3 then .p5AddrSample
  else if w = 6#3 then .p6Dispatch
  else .p7KbdPoll

/-- The decoder: total, with no "invalid" verdict on a word of a format (R91). -/
def decode (p : Params) : Word → Instr
  | .bus w => decodeBus w
  | .rx w => decodeRx p w
  | .seq w => decodeSeq w

/-- Why a number of bits is no word of a format. Raised by `wordOf` only; nothing of the machine
raises it, because the machine forms its words itself. -/
inductive Reject
  /-- No format has this many bytes. Safe: the block has no such word. -/
  | noFormat (nbits : Nat)
  /-- A bit above the format's width is set: above bit 16 (BUS17), 8 (RX9) or 2 (SEQ3). Safe. -/
  | bitsAboveFormat (nbits w : Nat)
  deriving DecidableEq, Repr

/-- The word of a format whose bits are `w`, the format being the one whose rows have that many bits
in whole bytes (log entry 11): 8 for SEQ3, 16 for RX9, 24 for BUS17. -/
def wordOf (nbits w : Nat) : Except Reject Word :=
  if nbits = 0 ∨ 24 < nbits then .error (.noFormat nbits)
  else if nbits ≤ 8 then
    if w < 2 ^ 3 then .ok (.seq (BitVec.ofNat 3 w)) else .error (.bitsAboveFormat nbits w)
  else if nbits ≤ 16 then
    if w < 2 ^ 9 then .ok (.rx (BitVec.ofNat 9 w)) else .error (.bitsAboveFormat nbits w)
  else
    if w < 2 ^ 17 then .ok (.bus (BitVec.ofNat 17 w)) else .error (.bitsAboveFormat nbits w)

/-- The operation the decoder reads from a row of spec/opcode_table.json whose bits are `w`, with the
default byte codes, as that table has them (R88). -/
def decodeTableWord (nbits w : Nat) : Option Instr :=
  match wordOf nbits w with
  | .ok word => some (decode Params.default word)
  | .error _ => none

/-- The encoder: the word of an operation, from the "encoding" column of the opcode table. The bits
`KBD_NONE` ignores are encoded as zeros (log entry 10). -/
def encode (p : Params) : Instr → Word
  | .rdRam1 i => .bus (0x10#5 ++ i)
  | .wrRam1 i => .bus (0x0#5 ++ i)
  | .rdRam2 i => .bus (0x1E#5 ++ i)
  | .wrRam2 i => .bus (0xE#5 ++ i)
  | .rdRom i => .bus (0x1FF#9 ++ i)
  | .wrRom i => .bus (0xFF#9 ++ i)
  | .rdKbdData => .bus 0x1D010#17
  | .wrKbdData => .bus 0x0D010#17
  | .rdKbdStatus => .bus 0x1D011#17
  | .wrKbdStatus => .bus 0x0D011#17
  | .rdDspData => .bus 0x1D012#17
  | .wrDspData => .bus 0x0D012#17
  | .rdDspStatus => .bus 0x1D013#17
  | .wrDspStatus => .bus 0x0D013#17
  | .rdPiaUnusedD000 x => .bus (0x1D00#13 ++ x)
  | .wrPiaUnusedD000 x => .bus (0xD00#13 ++ x)
  | .rdPiaUnusedD014 x => .bus (0x7405#15 ++ x)
  | .wrPiaUnusedD014 x => .bus (0x3405#15 ++ x)
  | .rdPiaUnusedD018 x => .bus (0x3A03#14 ++ x)
  | .wrPiaUnusedD018 x => .bus (0x1A03#14 ++ x)
  | .rdPiaUnusedD020 x => .bus (0xE81#12 ++ x)
  | .wrPiaUnusedD020 x => .bus (0x681#12 ++ x)
  | .rdPiaUnusedD040 x => .bus (0x741#11 ++ x)
  | .wrPiaUnusedD040 x => .bus (0x341#11 ++ x)
  | .rdPiaUnusedD080 x => .bus (0x3A1#10 ++ x)
  | .wrPiaUnusedD080 x => .bus (0x1A1#10 ++ x)
  | .rdPiaUnusedD100 x => .bus (0x1D1#9 ++ x)
  | .wrPiaUnusedD100 x => .bus (0xD1#9 ++ x)
  | .rdPiaUnusedD200 x => .bus (0xE9#8 ++ x)
  | .wrPiaUnusedD200 x => .bus (0x69#8 ++ x)
  | .rdPiaUnusedD400 x => .bus (0x75#7 ++ x)
  | .wrPiaUnusedD400 x => .bus (0x35#7 ++ x)
  | .rdPiaUnusedD800 x => .bus (0x3B#6 ++ x)
  | .wrPiaUnusedD800 x => .bus (0x1B#6 ++ x)
  | .rdUnmapped1000 x => .bus (0x11#5 ++ x)
  | .wrUnmapped1000 x => .bus (0x1#5 ++ x)
  | .rdUnmapped2000 x => .bus (0x9#4 ++ x)
  | .wrUnmapped2000 x => .bus (0x1#4 ++ x)
  | .rdUnmapped4000 x => .bus (0x5#3 ++ x)
  | .wrUnmapped4000 x => .bus (0x1#3 ++ x)
  | .rdUnmapped8000 x => .bus (0x6#3 ++ x)
  | .wrUnmapped8000 x => .bus (0x2#3 ++ x)
  | .rdUnmappedC000 x => .bus (0x1C#5 ++ x)
  | .wrUnmappedC000 x => .bus (0xC#5 ++ x)
  | .rdUnmappedF000 x => .bus (0x3E#6 ++ x)
  | .wrUnmappedF000 x => .bus (0x1E#6 ++ x)
  | .rdUnmappedF800 x => .bus (0x7E#7 ++ x)
  | .wrUnmappedF800 x => .bus (0x3E#7 ++ x)
  | .rdUnmappedFC00 x => .bus (0xFE#8 ++ x)
  | .wrUnmappedFC00 x => .bus (0x7E#8 ++ x)
  | .rdUnmappedFE00 x => .bus (0x1FE#9 ++ x)
  | .wrUnmappedFE00 x => .bus (0xFE#9 ++ x)
  | .kbdNone => .rx 0x000#9
  | .kbdLf => .rx (1#1 ++ p.kbdLfByte)
  | .kbdDel => .rx (1#1 ++ p.kbdDelByte)
  | .kbdChar b => .rx (1#1 ++ b)
  | .p0ClkLow => .seq 0#3
  | .p1WaitLow => .seq 1#3
  | .p2DirUpdate => .seq 2#3
  | .p3ClkHigh => .seq 3#3
  | .p4WaitHigh => .seq 4#3
  | .p5AddrSample => .seq 5#3
  | .p6Dispatch => .seq 6#3
  | .p7KbdPoll => .seq 7#3

/-- A BUS17 row of spec/opcode_table.json: a word is the row's exactly when its bits under `mask` are
those of `pattern` (the column "match"). -/
structure BusRow where
  mnemonic : String
  pattern : BitVec 17
  mask : BitVec 17
  deriving DecidableEq, Repr

/-- The rows of the three banks (R87). -/
def busBankRows : List BusRow :=
  [⟨"RD_RAM1", 0x10000#17, 0x1F000#17⟩,
   ⟨"WR_RAM1", 0x00000#17, 0x1F000#17⟩,
   ⟨"RD_RAM2", 0x1E000#17, 0x1F000#17⟩,
   ⟨"WR_RAM2", 0x0E000#17, 0x1F000#17⟩,
   ⟨"RD_ROM", 0x1FF00#17, 0x1FF00#17⟩,
   ⟨"WR_ROM", 0x0FF00#17, 0x1FF00#17⟩]

/-- The rows of the four registers (R87). -/
def busRegisterRows : List BusRow :=
  [⟨"RD_KBD_DATA", 0x1D010#17, 0x1FFFF#17⟩,
   ⟨"WR_KBD_DATA", 0x0D010#17, 0x1FFFF#17⟩,
   ⟨"RD_KBD_STATUS", 0x1D011#17, 0x1FFFF#17⟩,
   ⟨"WR_KBD_STATUS", 0x0D011#17, 0x1FFFF#17⟩,
   ⟨"RD_DSP_DATA", 0x1D012#17, 0x1FFFF#17⟩,
   ⟨"WR_DSP_DATA", 0x0D012#17, 0x1FFFF#17⟩,
   ⟨"RD_DSP_STATUS", 0x1D013#17, 0x1FFFF#17⟩,
   ⟨"WR_DSP_STATUS", 0x0D013#17, 0x1FFFF#17⟩]

/-- The rows of the ten blocks of `PIA_UNUSED` (R87). -/
def busUnusedRows : List BusRow :=
  [⟨"RD_PIA_UNUSED_D000", 0x1D000#17, 0x1FFF0#17⟩,
   ⟨"WR_PIA_UNUSED_D000", 0x0D000#17, 0x1FFF0#17⟩,
   ⟨"RD_PIA_UNUSED_D014", 0x1D014#17, 0x1FFFC#17⟩,
   ⟨"WR_PIA_UNUSED_D014", 0x0D014#17, 0x1FFFC#17⟩,
   ⟨"RD_PIA_UNUSED_D018", 0x1D018#17, 0x1FFF8#17⟩,
   ⟨"WR_PIA_UNUSED_D018", 0x0D018#17, 0x1FFF8#17⟩,
   ⟨"RD_PIA_UNUSED_D020", 0x1D020#17, 0x1FFE0#17⟩,
   ⟨"WR_PIA_UNUSED_D020", 0x0D020#17, 0x1FFE0#17⟩,
   ⟨"RD_PIA_UNUSED_D040", 0x1D040#17, 0x1FFC0#17⟩,
   ⟨"WR_PIA_UNUSED_D040", 0x0D040#17, 0x1FFC0#17⟩,
   ⟨"RD_PIA_UNUSED_D080", 0x1D080#17, 0x1FF80#17⟩,
   ⟨"WR_PIA_UNUSED_D080", 0x0D080#17, 0x1FF80#17⟩,
   ⟨"RD_PIA_UNUSED_D100", 0x1D100#17, 0x1FF00#17⟩,
   ⟨"WR_PIA_UNUSED_D100", 0x0D100#17, 0x1FF00#17⟩,
   ⟨"RD_PIA_UNUSED_D200", 0x1D200#17, 0x1FE00#17⟩,
   ⟨"WR_PIA_UNUSED_D200", 0x0D200#17, 0x1FE00#17⟩,
   ⟨"RD_PIA_UNUSED_D400", 0x1D400#17, 0x1FC00#17⟩,
   ⟨"WR_PIA_UNUSED_D400", 0x0D400#17, 0x1FC00#17⟩,
   ⟨"RD_PIA_UNUSED_D800", 0x1D800#17, 0x1F800#17⟩,
   ⟨"WR_PIA_UNUSED_D800", 0x0D800#17, 0x1F800#17⟩]

/-- The rows of the nine blocks of `UNMAPPED` (R87). -/
def busUnmappedRows : List BusRow :=
  [⟨"RD_UNMAPPED_1000", 0x11000#17, 0x1F000#17⟩,
   ⟨"WR_UNMAPPED_1000", 0x01000#17, 0x1F000#17⟩,
   ⟨"RD_UNMAPPED_2000", 0x12000#17, 0x1E000#17⟩,
   ⟨"WR_UNMAPPED_2000", 0x02000#17, 0x1E000#17⟩,
   ⟨"RD_UNMAPPED_4000", 0x14000#17, 0x1C000#17⟩,
   ⟨"WR_UNMAPPED_4000", 0x04000#17, 0x1C000#17⟩,
   ⟨"RD_UNMAPPED_8000", 0x18000#17, 0x1C000#17⟩,
   ⟨"WR_UNMAPPED_8000", 0x08000#17, 0x1C000#17⟩,
   ⟨"RD_UNMAPPED_C000", 0x1C000#17, 0x1F000#17⟩,
   ⟨"WR_UNMAPPED_C000", 0x0C000#17, 0x1F000#17⟩,
   ⟨"RD_UNMAPPED_F000", 0x1F000#17, 0x1F800#17⟩,
   ⟨"WR_UNMAPPED_F000", 0x0F000#17, 0x1F800#17⟩,
   ⟨"RD_UNMAPPED_F800", 0x1F800#17, 0x1FC00#17⟩,
   ⟨"WR_UNMAPPED_F800", 0x0F800#17, 0x1FC00#17⟩,
   ⟨"RD_UNMAPPED_FC00", 0x1FC00#17, 0x1FE00#17⟩,
   ⟨"WR_UNMAPPED_FC00", 0x0FC00#17, 0x1FE00#17⟩,
   ⟨"RD_UNMAPPED_FE00", 0x1FE00#17, 0x1FF00#17⟩,
   ⟨"WR_UNMAPPED_FE00", 0x0FE00#17, 0x1FF00#17⟩]

/-- The 52 BUS17 rows of the opcode table (R87). -/
def busTable : List BusRow := busBankRows ++ busRegisterRows ++ busUnusedRows ++ busUnmappedRows

/-- A word fits a row: `word & mask == match` (R87). -/
def BusRow.fits (r : BusRow) (w : BitVec 17) : Bool := w &&& r.mask == r.pattern

/-- An RX9 row of the opcode table, under the byte codes it is parametric in (R88). -/
structure RxRow where
  mnemonic : String
  pattern : BitVec 9
  mask : BitVec 9
  deriving DecidableEq, Repr

/-- The four RX9 rows in the order of their priorities (R88). -/
def rxTable (p : Params) : List RxRow :=
  [⟨"KBD_NONE", 0x000#9, 0x100#9⟩,
   ⟨"KBD_LF", 1#1 ++ p.kbdLfByte, 0x1FF#9⟩,
   ⟨"KBD_DEL", 1#1 ++ p.kbdDelByte, 0x1FF#9⟩,
   ⟨"KBD_CHAR", 0x100#9, 0x100#9⟩]

/-- A receive word fits a row: `word & mask == match`. -/
def RxRow.fits (r : RxRow) (w : BitVec 9) : Bool := w &&& r.mask == r.pattern

/-- A SEQ3 row of the opcode table: its mask is all three bits (R89). -/
structure SeqRow where
  mnemonic : String
  pattern : BitVec 3
  deriving DecidableEq, Repr

/-- The eight SEQ3 rows (R89). -/
def seqTable : List SeqRow :=
  [⟨"P0_CLK_LOW", 0#3⟩,
   ⟨"P1_WAIT_LOW", 1#3⟩,
   ⟨"P2_DIR_UPDATE", 2#3⟩,
   ⟨"P3_CLK_HIGH", 3#3⟩,
   ⟨"P4_WAIT_HIGH", 4#3⟩,
   ⟨"P5_ADDR_SAMPLE", 5#3⟩,
   ⟨"P6_DISPATCH", 6#3⟩,
   ⟨"P7_KBD_POLL", 7#3⟩]

/-- A phase number fits a row: "the row whose `match` equals the phase" (R91). -/
def SeqRow.fits (r : SeqRow) (w : BitVec 3) : Bool := w == r.pattern

end Sys2Proof
end

