-- ==== Sys2Proof/Machine/State.lean ====
section
/-!
DEFINITION. The state of the block: the closed list of spec/10_state.md R20, then what the model
carries beside it (the OPEN byte codes, the stimulus script, the cycle counter of the free values);
the reasons a step can stop (none is ever raised, spec/60_exceptions.md R210); the state after reset
(R41), for any parameters and images, and the one instance `State.reset`.
-/

namespace Sys2Proof.Machine

/-- A bank of memory: the cells (index, byte) that differ from `Config.unlistedByte`, indexes
strictly rising (`Memory.wf` in Machine/Ops.lean says so). -/
abbrev Memory := List Host.Cell

/-- One line of a stimulus script (R96): what the environment presents in one bus cycle. Each value
is used at one phase only (R100, R108). -/
structure Stimulus where
  /-- The `half_period` input, read at P0. -/
  halfPeriod : Duration
  /-- The level of the read/write line at P2: high = the CPU reads. -/
  rw : Level
  /-- The levels of the 16 address lines at P5: bit k is line k (D16). -/
  addr : Addr
  /-- The levels of the eight data lines at P6, as the CPU drives them: bit k is line k (D16). -/
  data : Byte
  /-- The bytes the terminal adds to `RX` before the poll of P7, oldest first. -/
  rx : List Byte
  deriving DecidableEq, Repr

/-- The three images the boot code supplies (R5, R232): `ROM_IMAGE`, `RAM1_INIT`, `RAM2_INIT`, each
by index within its bank. -/
structure Images where
  rom : Memory
  ram1 : Memory
  ram2 : Memory
  deriving DecidableEq, Repr

/-- The state of the block. -/
structure State where
  /-- `CLK`, the level driven on the clock line (R22). -/
  clk : Level
  /-- `PHASE`, the sequencer position P0..P7 (R23). -/
  phase : BitVec 3
  /-- `DELAY`, the half-period in force for the current pulse (R23). -/
  delay : Duration
  /-- `DIR`, the retained bus direction (R24). -/
  dir : Dir
  /-- `PINMODE`, the electrical mode of the data pins (R25). -/
  pinMode : PinMode
  /-- `DOUT`, the data output latch (R26). -/
  dout : Byte
  /-- `ADDR`, the address sampled in the current cycle (R27). -/
  addr : Addr
  /-- `PREV_VALID`: a previous cycle exists (R28). -/
  prevValid : Bool
  /-- `PREV_ADDR` of the snapshot (R28). -/
  prevAddr : Addr
  /-- `PREV_DIR` of the snapshot (R28). -/
  prevDir : Dir
  /-- `RAM1[0..4095]` by index (R29). -/
  ram1 : Memory
  /-- `RAM2[0..4095]` by index (R30). -/
  ram2 : Memory
  /-- `ROM[0..255]` by index, never written (R31). -/
  rom : Memory
  /-- `KBD_DATA` at 0xD010 (R32). -/
  kbdData : Byte
  /-- `KBD_STATUS` at 0xD011 (R33). -/
  kbdStatus : Byte
  /-- `DSP_DATA` at 0xD012 (R34). -/
  dspData : Byte
  /-- `DSP_STATUS` at 0xD013 (R35). -/
  dspStatus : Byte
  /-- `TX`, every byte sent to the terminal, oldest first (R36). -/
  tx : List Byte
  /-- `RX`, the bytes the terminal has sent and the controller has not taken, oldest first (R37). -/
  rx : List Byte
  /-- The OPEN byte codes of this build (R5): configuration, changed by no step. -/
  params : Params
  /-- MODEL's own: the lines of the stimulus script not yet used, oldest first (R9, R96). -/
  inputs : List Stimulus
  /-- MODEL's own: cycles finished, the argument of Config's free values (log entry 5). -/
  cycles : Nat
  deriving DecidableEq, Repr

/-- The reasons a step ends in a fault: none. "The block raises no synchronous exception" (R210), so
the type has no constructor, which is safe: no claim can rest on a fault. -/
inductive Fault
  deriving DecidableEq, Repr

/-- The reasons a step is refused. -/
inductive Refusal
  /-- An operation with no meaning in exec yet. Raised by a refused arm of Machine/Dispatch.lean; no
  arm is one. Safe: the model stops where the block goes on. -/
  | notModelled (mnemonic : String)
  deriving DecidableEq, Repr

/-- The state when the loop starts its first P0 (R41), for a build's byte codes and the images the
boot code supplies. `DELAY`, `DOUT`, `ADDR`, `PREV_ADDR` and `PREV_DIR` are unspecified there:
DESIGN CHOICE (log entry 4). The other constants are the spec's decisions D2, D4 to D7 and D25. -/
def State.resetWith (p : Params) (img : Images) : State where
  clk := .high
  phase := 0#3
  delay := 1
  dir := .cpuWrites
  pinMode := .input
  dout := 0x00#8
  addr := 0x0000#16
  prevValid := false
  prevAddr := 0x0000#16
  prevDir := .cpuWrites
  ram1 := img.ram1
  ram2 := img.ram2
  rom := img.rom
  kbdData := 0x00#8
  kbdStatus := 0x00#8
  dspData := 0x00#8
  dspStatus := 0x00#8
  tx := []
  rx := []
  params := p
  inputs := []
  cycles := 0

/-- The state after reset with the default byte codes (log entry 3) and images that list nothing (log
entry 2). Every other build and every other image is another start: `State.resetWith`. -/
def State.reset : State := State.resetWith Params.default ⟨[], [], []⟩

end Sys2Proof.Machine
end

