-- ==== Sys2Proof/Machine/Ops.lean ====
section
/-!
DEFINITION. The named operations over memory and registers. A bank is read and written through
`Memory.read` and `Memory.write`, which keep its canonical form; every other element is changed
through one named update. Taking an exception has no operation here: the block has no trap entry and
no trap return (spec/60_exceptions.md R210, R214, R215).
-/

namespace Sys2Proof.Machine

/-- The canonical form of a bank of `size` cells: indexes strictly rising and inside the bank, and no
cell listed that holds what an unlisted cell reads as. -/
abbrev Memory.wf (size : Nat) (m : Memory) : Prop :=
  m.Pairwise (fun c d => c.1 < d.1) ∧ ∀ c ∈ m, c.1 < size ∧ c.2 ≠ Config.unlistedByte

/-- The byte of cell `k`. -/
def Memory.read : Memory → Nat → Byte
  | [], _ => Config.unlistedByte
  | c :: m, k => if c.1 = k then c.2 else Memory.read m k

/-- A cell put at its place in a bank that does not list its index. -/
def Memory.insert (c : Host.Cell) : Memory → Memory
  | [] => [c]
  | d :: m => if c.1 < d.1 then c :: d :: m else d :: Memory.insert c m

/-- The bank without cell `k`. -/
def Memory.erase (m : Memory) (k : Nat) : Memory := m.filter (fun c => c.1 != k)

/-- The bank after `v` is stored in cell `k`. -/
def Memory.write (m : Memory) (k : Nat) (v : Byte) : Memory :=
  if v = Config.unlistedByte then m.erase k else (m.erase k).insert (k, v)

/-- `CLK <- l` (R102, R105). -/
def State.setClk (l : Level) (s : State) : State := { s with clk := l }

/-- `PHASE <- n` (R7). -/
def State.setPhase (n : BitVec 3) (s : State) : State := { s with phase := n }

/-- `DELAY <- d` (R102). -/
def State.setDelay (d : Duration) (s : State) : State := { s with delay := d }

/-- `PINMODE <- rw ; DIR <- rw`: the two are only ever written together (R39 (a), R122). -/
def State.switchTo (d : Dir) (s : State) : State := { s with pinMode := PinMode.ofDir d, dir := d }

/-- `DriveData(v)`: `DOUT <- v` (R124). -/
def State.driveData (v : Byte) (s : State) : State := { s with dout := v }

/-- `ADDR <- a` (R120). -/
def State.setAddr (a : Addr) (s : State) : State := { s with addr := a }

/-- `PREV_ADDR <- ADDR ; PREV_DIR <- DIR ; PREV_VALID <- 1` (R126). -/
def State.snapshot (s : State) : State :=
  { s with prevAddr := s.addr, prevDir := s.dir, prevValid := true }

/-- `RAM1[i] <- v` (R160). -/
def State.writeRam1 (i : Nat) (v : Byte) (s : State) : State := { s with ram1 := s.ram1.write i v }

/-- `RAM2[i] <- v` (R161). -/
def State.writeRam2 (i : Nat) (v : Byte) (s : State) : State := { s with ram2 := s.ram2.write i v }

/-- `KBD_DATA <- v` (R181, R195). -/
def State.setKbdData (v : Byte) (s : State) : State := { s with kbdData := v }

/-- `KBD_STATUS <- v` (R182, R186, R195). -/
def State.setKbdStatus (v : Byte) (s : State) : State := { s with kbdStatus := v }

/-- `DSP_DATA <- v` (R183). -/
def State.setDspData (v : Byte) (s : State) : State := { s with dspData := v }

/-- `DSP_STATUS <- v` (R185). -/
def State.setDspStatus (v : Byte) (s : State) : State := { s with dspStatus := v }

/-- `Emit(b)`: `TX <- TX ++ [b]` (R198). -/
def State.emit (b : Byte) (s : State) : State := { s with tx := s.tx ++ [b] }

/-- `Emit` of each byte of a list, in order (R183). -/
def State.emitAll : List Byte → State → State
  | [], s => s
  | b :: bs, s => (s.emit b).emitAll bs

/-- `RX` replaced: bytes arriving from the terminal, or the head taken (R37, R199). -/
def State.setRx (q : List Byte) (s : State) : State := { s with rx := q }

/-- The environment goes on to the next line of its script (R96): one line is one cycle. -/
def State.nextCycle (s : State) : State := { s with inputs := s.inputs.tail, cycles := s.cycles + 1 }

/-- `Wait(d)`: lets the duration pass and changes no state (R104, R251). -/
def wait (_d : Duration) (s : State) : State := s

end Sys2Proof.Machine
end

