-- ==== Sys2Proof/Machine/Operands.lean ====
section
/-!
DEFINITION. The operands of the operations: the values sampled from the input lines (spec/00_scope.md
R8), the poll of the terminal, and the words that select an operation (spec/30_encoding.md R81, R83).
-/

namespace Sys2Proof.Machine

/-- What the environment presents in the current cycle: the first unused line of the script, and when
the script is used up FREE values, which nothing constrains (D24, log entry 5). -/
def current (s : State) : Stimulus :=
  match s.inputs with
  | i :: _ => i
  | [] => { halfPeriod := Config.freeHalfPeriod s.cycles
            rw := Config.freeRw s.cycles
            addr := Config.freeAddr s.cycles
            data := Config.freeData s.cycles
            rx := Config.freeRx s.cycles }

/-- The `half_period` input now (R102). -/
def sampleHalfPeriod (s : State) : Duration := (current s).halfPeriod

/-- `SampleRW()`: the level of the read/write line now (R121). -/
def sampleRw (s : State) : Level := (current s).rw

/-- `SampleAddr()`: the 16 address lines now, line k as bit k (R120, R55). -/
def sampleAddr (s : State) : Addr := (current s).addr

/-- `SampleData()`: the eight data lines now, line k as bit k (R125). It has no side effect. -/
def sampleData (s : State) : Byte := (current s).data

/-- The terminal appends this cycle's bytes to `RX` (R37). It does so before the poll of P7, the only
place where the block looks at `RX`. -/
def arrive (s : State) : State := s.setRx (s.rx ++ (current s).rx)

/-- The result of `RxPoll()` (R199): the head of `RX`, or none. -/
def rxHead (s : State) : Option Byte := s.rx.head?

/-- The effect of `RxPoll()` on `RX` (R199): the head is removed. -/
def takeRx (s : State) : State := s.setRx s.rx.tail

/-- The BUS17 word `{DIR, ADDR}` that selects the dispatched operation (R81, R126). -/
def busWord (s : State) : BitVec 17 := s.dir.bit ++ s.addr

/-- The RX9 word `{AVAIL, BYTE}` of a poll (R83): `none` is the word with `AVAIL` = 0. -/
def rxWordOf : Option Byte → BitVec 9
  | none => 0#9
  | some b => 1#1 ++ b

/-- The RX9 word of the poll of `RX` as it stands. -/
def rxWord (s : State) : BitVec 9 := rxWordOf (rxHead s)

end Sys2Proof.Machine
end

