-- ==== Sys2Proof/Machine/MemoryPorts.lean ====
section
/-!
DEFINITION. The RAM write port, the RAM read port and the ROM read port (spec/43_memory_ports.md R160
to R162, R164 to R166, R168): the handlers the decoder calls with a bus address, and the meanings of
the six BUS17 rows of the three banks. A read handler answers the byte and the state it leaves; a
meaning of a read row drives that byte, a meaning of a write row samples the byte it stores (R126).
-/

namespace Sys2Proof.Machine

/-- The outcome of an operation of this block: a next state, always (R210). -/
abbrev Result := Host.Outcome State Fault Refusal

/-- `DriveData` of a read handler's byte (R126, R143). -/
def driveResult (r : Byte × State) : State := r.2.driveData r.1

/-- A read row run by itself: the handler, then `DriveData` of its result (R126). -/
def readCycle (handler : State → Byte × State) (s : State) : Result := .next (driveResult (handler s))

/-- A write row run by itself: `v <- SampleData()`, then the handler (R125, R126). -/
def writeCycle (handler : Byte → State → State) (s : State) : Result :=
  .next (handler (sampleData s) s)

/-- `WR_RAM1(a, v)`: `RAM1[a] <- v` (R160). -/
def wrRam1 (a : Addr) (v : Byte) (s : State) : State := s.writeRam1 a.toNat v

/-- `WR_RAM2(a, v)`: `RAM2[a - 0xE000] <- v` (R161). -/
def wrRam2 (a : Addr) (v : Byte) (s : State) : State := s.writeRam2 (a - Config.ram2Base).toNat v

/-- `WR_ROM(a, v)`: nothing; the byte is dropped (R162). -/
def wrRom (_a : Addr) (_v : Byte) (s : State) : State := s

/-- `RD_RAM1(a)`: `return RAM1[a]` (R164). -/
def rdRam1 (a : Addr) (s : State) : Byte × State := (s.ram1.read a.toNat, s)

/-- `RD_RAM2(a)`: `return RAM2[a - 0xE000]` (R165). -/
def rdRam2 (a : Addr) (s : State) : Byte × State := (s.ram2.read (a - Config.ram2Base).toNat, s)

/-- `RD_ROM(a)`: `return ROM[a - 0xFF00]` (R166). -/
def rdRom (a : Addr) (s : State) : Byte × State := (s.rom.read (a - Config.romBase).toNat, s)

/-- Row `RD_RAM1` (R164); the address of index `i` is `{0x0, i}` (R81). -/
def execRdRam1 (i : BitVec 12) (s : State) : Result := readCycle (rdRam1 (0x0#4 ++ i)) s

/-- Row `WR_RAM1` (R160). -/
def execWrRam1 (i : BitVec 12) (s : State) : Result := writeCycle (wrRam1 (0x0#4 ++ i)) s

/-- Row `RD_RAM2` (R165); the address of index `i` is `{0xE, i}` (R81). -/
def execRdRam2 (i : BitVec 12) (s : State) : Result := readCycle (rdRam2 (0xE#4 ++ i)) s

/-- Row `WR_RAM2` (R161). -/
def execWrRam2 (i : BitVec 12) (s : State) : Result := writeCycle (wrRam2 (0xE#4 ++ i)) s

/-- Row `RD_ROM` (R166); the address of index `i` is `{0xFF, i}` (R81). -/
def execRdRom (i : BitVec 8) (s : State) : Result := readCycle (rdRom (0xFF#8 ++ i)) s

/-- Row `WR_ROM` (R162). -/
def execWrRom (i : BitVec 8) (s : State) : Result := writeCycle (wrRom (0xFF#8 ++ i)) s

end Sys2Proof.Machine
end

