-- ==== Sys2Proof/Machine/Flags.lean ====
section
/-!
DEFINITION. The flag computations. The block has no condition codes; its only flags are the bit-7
flags of the peripheral registers (spec/10_state.md R38), and the only arithmetic on them is forcing,
clearing and dropping bit 7 (spec/00_scope.md R10 (b) to (d)).
-/

namespace Sys2Proof.Machine

/-- The flag of a register: bit 7 (R82 `FLAG`). -/
def flag (v : Byte) : Bool := v.getLsbD 7

/-- Forcing bit 7: `v | 0x80` (R10 (b)). -/
def setFlag (v : Byte) : Byte := v ||| 0x80#8

/-- Clearing bit 7: `v & 0x7F` (R10 (c)). -/
def clearFlag (v : Byte) : Byte := v &&& 0x7F#8

/-- The low 7 bits as a 7-bit code: `v[6:0]` (R10 (d), R82 `CHAR`). -/
def charBits (v : Byte) : BitVec 7 := v.extractLsb 6 0

end Sys2Proof.Machine
end

