-- ==== Sys2Proof/Machine/PeripheralRegisters.lean ====
section
/-!
DEFINITION. The bus side of the peripheral register file: the four registers at 0xD010 to 0xD013 with
their side effects (spec/44_peripheral_register_file.md R180 to R189), as handlers the decoder calls
and as the meanings of the eight BUS17 rows of the registers.
-/

namespace Sys2Proof.Machine

/-- `WR_KBD_DATA(v)`: stored verbatim (R181). -/
def wrKbdData (v : Byte) (s : State) : State := s.setKbdData v

/-- `WR_KBD_STATUS(v)`: stored verbatim (R182). -/
def wrKbdStatus (v : Byte) (s : State) : State := s.setKbdStatus v

/-- `DspBytes(v)` (R184): the carriage-return code is tested before the backspace code, both on the low
7 bits (D10, D11); any other code goes out as itself, widened with a zero bit. -/
def dspBytes (p : Params) (v : Byte) : List Byte :=
  if charBits v = p.dspCrCode then [p.termCr, p.termLf]
  else if charBits v = p.dspBsCode then [p.termBs]
  else [(charBits v).setWidth 8]

/-- `WR_DSP_DATA(v)` (R183): store, emit each byte of `DspBytes(v)` in order, clear bit 7. -/
def wrDspData (v : Byte) (s : State) : State :=
  let s := s.setDspData v
  let s := s.emitAll (dspBytes s.params v)
  s.setDspData (clearFlag s.dspData)

/-- `WR_DSP_STATUS(v)`: stored verbatim, no side effect (R185). -/
def wrDspStatus (v : Byte) (s : State) : State := s.setDspStatus v

/-- `RD_KBD_DATA()` (R186): the stored value; `KBD_STATUS[7]` is cleared. -/
def rdKbdData (s : State) : Byte × State := (s.kbdData, s.setKbdStatus (clearFlag s.kbdStatus))

/-- `RD_KBD_STATUS()`: the stored value (R187). -/
def rdKbdStatus (s : State) : Byte × State := (s.kbdStatus, s)

/-- `RD_DSP_DATA()`: the stored value (R188). -/
def rdDspData (s : State) : Byte × State := (s.dspData, s)

/-- `RD_DSP_STATUS()`: the stored value (R189). -/
def rdDspStatus (s : State) : Byte × State := (s.dspStatus, s)

/-- Row `RD_KBD_DATA` (R186). -/
def execRdKbdData (s : State) : Result := readCycle rdKbdData s

/-- Row `WR_KBD_DATA` (R181). -/
def execWrKbdData (s : State) : Result := writeCycle wrKbdData s

/-- Row `RD_KBD_STATUS` (R187). -/
def execRdKbdStatus (s : State) : Result := readCycle rdKbdStatus s

/-- Row `WR_KBD_STATUS` (R182). -/
def execWrKbdStatus (s : State) : Result := writeCycle wrKbdStatus s

/-- Row `RD_DSP_DATA` (R188). -/
def execRdDspData (s : State) : Result := readCycle rdDspData s

/-- Row `WR_DSP_DATA` (R183). -/
def execWrDspData (s : State) : Result := writeCycle wrDspData s

/-- Row `RD_DSP_STATUS` (R189). -/
def execRdDspStatus (s : State) : Result := readCycle rdDspStatus s

/-- Row `WR_DSP_STATUS` (R185). -/
def execWrDspStatus (s : State) : Result := writeCycle wrDspStatus s

end Sys2Proof.Machine
end

