-- ==== Sys2Proof/Machine/PiaUnused.lean ====
section
/-!
DEFINITION. The rest of the peripheral range (spec/44_peripheral_register_file.md R190, R191): the two
handlers, and the meanings of the ten blocks of addresses in each direction (spec/30_encoding.md R87).
-/

namespace Sys2Proof.Machine

/-- `WR_PIA_UNUSED(a, v)`: nothing; the byte is dropped (R191). -/
def wrPiaUnused (_a : Addr) (_v : Byte) (s : State) : State := s

/-- `RD_PIA_UNUSED(a)`: `return 0x00` (R190). -/
def rdPiaUnused (_a : Addr) (s : State) : Byte × State := (0x00#8, s)

/-- Row `RD_PIA_UNUSED_D000`: addresses 0xD000-0xD00F (R190). -/
def execRdPiaUnusedD000 (x : BitVec 4) (s : State) : Result :=
  readCycle (rdPiaUnused (0xD00#12 ++ x)) s

/-- Row `WR_PIA_UNUSED_D000`: addresses 0xD000-0xD00F (R191). -/
def execWrPiaUnusedD000 (x : BitVec 4) (s : State) : Result :=
  writeCycle (wrPiaUnused (0xD00#12 ++ x)) s

/-- Row `RD_PIA_UNUSED_D014`: addresses 0xD014-0xD017 (R190). -/
def execRdPiaUnusedD014 (x : BitVec 2) (s : State) : Result :=
  readCycle (rdPiaUnused (0x3405#14 ++ x)) s

/-- Row `WR_PIA_UNUSED_D014`: addresses 0xD014-0xD017 (R191). -/
def execWrPiaUnusedD014 (x : BitVec 2) (s : State) : Result :=
  writeCycle (wrPiaUnused (0x3405#14 ++ x)) s

/-- Row `RD_PIA_UNUSED_D018`: addresses 0xD018-0xD01F (R190). -/
def execRdPiaUnusedD018 (x : BitVec 3) (s : State) : Result :=
  readCycle (rdPiaUnused (0x1A03#13 ++ x)) s

/-- Row `WR_PIA_UNUSED_D018`: addresses 0xD018-0xD01F (R191). -/
def execWrPiaUnusedD018 (x : BitVec 3) (s : State) : Result :=
  writeCycle (wrPiaUnused (0x1A03#13 ++ x)) s

/-- Row `RD_PIA_UNUSED_D020`: addresses 0xD020-0xD03F (R190). -/
def execRdPiaUnusedD020 (x : BitVec 5) (s : State) : Result :=
  readCycle (rdPiaUnused (0x681#11 ++ x)) s

/-- Row `WR_PIA_UNUSED_D020`: addresses 0xD020-0xD03F (R191). -/
def execWrPiaUnusedD020 (x : BitVec 5) (s : State) : Result :=
  writeCycle (wrPiaUnused (0x681#11 ++ x)) s

/-- Row `RD_PIA_UNUSED_D040`: addresses 0xD040-0xD07F (R190). -/
def execRdPiaUnusedD040 (x : BitVec 6) (s : State) : Result :=
  readCycle (rdPiaUnused (0x341#10 ++ x)) s

/-- Row `WR_PIA_UNUSED_D040`: addresses 0xD040-0xD07F (R191). -/
def execWrPiaUnusedD040 (x : BitVec 6) (s : State) : Result :=
  writeCycle (wrPiaUnused (0x341#10 ++ x)) s

/-- Row `RD_PIA_UNUSED_D080`: addresses 0xD080-0xD0FF (R190). -/
def execRdPiaUnusedD080 (x : BitVec 7) (s : State) : Result :=
  readCycle (rdPiaUnused (0x1A1#9 ++ x)) s

/-- Row `WR_PIA_UNUSED_D080`: addresses 0xD080-0xD0FF (R191). -/
def execWrPiaUnusedD080 (x : BitVec 7) (s : State) : Result :=
  writeCycle (wrPiaUnused (0x1A1#9 ++ x)) s

/-- Row `RD_PIA_UNUSED_D100`: addresses 0xD100-0xD1FF (R190). -/
def execRdPiaUnusedD100 (x : BitVec 8) (s : State) : Result :=
  readCycle (rdPiaUnused (0xD1#8 ++ x)) s

/-- Row `WR_PIA_UNUSED_D100`: addresses 0xD100-0xD1FF (R191). -/
def execWrPiaUnusedD100 (x : BitVec 8) (s : State) : Result :=
  writeCycle (wrPiaUnused (0xD1#8 ++ x)) s

/-- Row `RD_PIA_UNUSED_D200`: addresses 0xD200-0xD3FF (R190). -/
def execRdPiaUnusedD200 (x : BitVec 9) (s : State) : Result :=
  readCycle (rdPiaUnused (0x69#7 ++ x)) s

/-- Row `WR_PIA_UNUSED_D200`: addresses 0xD200-0xD3FF (R191). -/
def execWrPiaUnusedD200 (x : BitVec 9) (s : State) : Result :=
  writeCycle (wrPiaUnused (0x69#7 ++ x)) s

/-- Row `RD_PIA_UNUSED_D400`: addresses 0xD400-0xD7FF (R190). -/
def execRdPiaUnusedD400 (x : BitVec 10) (s : State) : Result :=
  readCycle (rdPiaUnused (0x35#6 ++ x)) s

/-- Row `WR_PIA_UNUSED_D400`: addresses 0xD400-0xD7FF (R191). -/
def execWrPiaUnusedD400 (x : BitVec 10) (s : State) : Result :=
  writeCycle (wrPiaUnused (0x35#6 ++ x)) s

/-- Row `RD_PIA_UNUSED_D800`: addresses 0xD800-0xDFFF (R190). -/
def execRdPiaUnusedD800 (x : BitVec 11) (s : State) : Result :=
  readCycle (rdPiaUnused (0x1B#5 ++ x)) s

/-- Row `WR_PIA_UNUSED_D800`: addresses 0xD800-0xDFFF (R191). -/
def execWrPiaUnusedD800 (x : BitVec 11) (s : State) : Result :=
  writeCycle (wrPiaUnused (0x1B#5 ++ x)) s

end Sys2Proof.Machine
end

