-- ==== Sys2Proof/Machine/UnmappedSpace.lean ====
section
/-!
DEFINITION. The space with no backing (spec/43_memory_ports.md R163, R167): the two handlers, and the
meanings of the nine blocks of addresses in each direction (spec/30_encoding.md R87).
-/

namespace Sys2Proof.Machine

/-- `WR_UNMAPPED(a, v)`: nothing; the byte is dropped (R163). -/
def wrUnmapped (_a : Addr) (_v : Byte) (s : State) : State := s

/-- `RD_UNMAPPED(a)`: `return 0x00` (R167). -/
def rdUnmapped (_a : Addr) (s : State) : Byte × State := (0x00#8, s)

/-- Row `RD_UNMAPPED_1000`: addresses 0x1000-0x1FFF (R167). -/
def execRdUnmapped1000 (x : BitVec 12) (s : State) : Result :=
  readCycle (rdUnmapped (0x1#4 ++ x)) s

/-- Row `WR_UNMAPPED_1000`: addresses 0x1000-0x1FFF (R163). -/
def execWrUnmapped1000 (x : BitVec 12) (s : State) : Result :=
  writeCycle (wrUnmapped (0x1#4 ++ x)) s

/-- Row `RD_UNMAPPED_2000`: addresses 0x2000-0x3FFF (R167). -/
def execRdUnmapped2000 (x : BitVec 13) (s : State) : Result :=
  readCycle (rdUnmapped (0x1#3 ++ x)) s

/-- Row `WR_UNMAPPED_2000`: addresses 0x2000-0x3FFF (R163). -/
def execWrUnmapped2000 (x : BitVec 13) (s : State) : Result :=
  writeCycle (wrUnmapped (0x1#3 ++ x)) s

/-- Row `RD_UNMAPPED_4000`: addresses 0x4000-0x7FFF (R167). -/
def execRdUnmapped4000 (x : BitVec 14) (s : State) : Result :=
  readCycle (rdUnmapped (0x1#2 ++ x)) s

/-- Row `WR_UNMAPPED_4000`: addresses 0x4000-0x7FFF (R163). -/
def execWrUnmapped4000 (x : BitVec 14) (s : State) : Result :=
  writeCycle (wrUnmapped (0x1#2 ++ x)) s

/-- Row `RD_UNMAPPED_8000`: addresses 0x8000-0xBFFF (R167). -/
def execRdUnmapped8000 (x : BitVec 14) (s : State) : Result :=
  readCycle (rdUnmapped (0x2#2 ++ x)) s

/-- Row `WR_UNMAPPED_8000`: addresses 0x8000-0xBFFF (R163). -/
def execWrUnmapped8000 (x : BitVec 14) (s : State) : Result :=
  writeCycle (wrUnmapped (0x2#2 ++ x)) s

/-- Row `RD_UNMAPPED_C000`: addresses 0xC000-0xCFFF (R167). -/
def execRdUnmappedC000 (x : BitVec 12) (s : State) : Result :=
  readCycle (rdUnmapped (0xC#4 ++ x)) s

/-- Row `WR_UNMAPPED_C000`: addresses 0xC000-0xCFFF (R163). -/
def execWrUnmappedC000 (x : BitVec 12) (s : State) : Result :=
  writeCycle (wrUnmapped (0xC#4 ++ x)) s

/-- Row `RD_UNMAPPED_F000`: addresses 0xF000-0xF7FF (R167). -/
def execRdUnmappedF000 (x : BitVec 11) (s : State) : Result :=
  readCycle (rdUnmapped (0x1E#5 ++ x)) s

/-- Row `WR_UNMAPPED_F000`: addresses 0xF000-0xF7FF (R163). -/
def execWrUnmappedF000 (x : BitVec 11) (s : State) : Result :=
  writeCycle (wrUnmapped (0x1E#5 ++ x)) s

/-- Row `RD_UNMAPPED_F800`: addresses 0xF800-0xFBFF (R167). -/
def execRdUnmappedF800 (x : BitVec 10) (s : State) : Result :=
  readCycle (rdUnmapped (0x3E#6 ++ x)) s

/-- Row `WR_UNMAPPED_F800`: addresses 0xF800-0xFBFF (R163). -/
def execWrUnmappedF800 (x : BitVec 10) (s : State) : Result :=
  writeCycle (wrUnmapped (0x3E#6 ++ x)) s

/-- Row `RD_UNMAPPED_FC00`: addresses 0xFC00-0xFDFF (R167). -/
def execRdUnmappedFC00 (x : BitVec 9) (s : State) : Result :=
  readCycle (rdUnmapped (0x7E#7 ++ x)) s

/-- Row `WR_UNMAPPED_FC00`: addresses 0xFC00-0xFDFF (R163). -/
def execWrUnmappedFC00 (x : BitVec 9) (s : State) : Result :=
  writeCycle (wrUnmapped (0x7E#7 ++ x)) s

/-- Row `RD_UNMAPPED_FE00`: addresses 0xFE00-0xFEFF (R167). -/
def execRdUnmappedFE00 (x : BitVec 8) (s : State) : Result :=
  readCycle (rdUnmapped (0xFE#8 ++ x)) s

/-- Row `WR_UNMAPPED_FE00`: addresses 0xFE00-0xFEFF (R163). -/
def execWrUnmappedFE00 (x : BitVec 8) (s : State) : Result :=
  writeCycle (wrUnmapped (0xFE#8 ++ x)) s

end Sys2Proof.Machine
end

