-- ==== Sys2Proof/Machine/AddressDecoder.lean ====
section
/-!
DEFINITION. The address decoder (spec/42_address_decoder.md R140 to R144): the function from a sampled
address to one of nine regions, and the routing of a write or a read to the handler of its region.
-/

namespace Sys2Proof.Machine

/-- The nine outcomes of decoding an address (R140). -/
inductive Region
  | ram1
  | ram2
  | rom
  | unmapped
  | kbdData
  | kbdStatus
  | dspData
  | dspStatus
  | piaUnused
  deriving DecidableEq, Repr

/-- `Region(a)` (R140): the high nibble first, then the page or the exact register address. That
0xF000 to 0xFEFF is `UNMAPPED` is the spec's decision D17 (90_conflicts.md C1). -/
def region (a : Addr) : Region :=
  if a.extractLsb 15 12 = 0x0#4 then .ram1
  else if a.extractLsb 15 12 = 0xE#4 then .ram2
  else if a.extractLsb 15 12 = 0xF#4 then
    if a.extractLsb 15 8 = 0xFF#8 then .rom else .unmapped
  else if a.extractLsb 15 12 = 0xD#4 then
    if a = Config.kbdDataAddr then .kbdData
    else if a = Config.kbdStatusAddr then .kbdStatus
    else if a = Config.dspDataAddr then .dspData
    else if a = Config.dspStatusAddr then .dspStatus
    else .piaUnused
  else .unmapped

/-- `MemWrite(a, 1, v)`: the write dispatch (R142). Exactly one handler runs. -/
def memWrite (a : Addr) (v : Byte) (s : State) : State :=
  match region a with
  | .ram1 => wrRam1 a v s
  | .ram2 => wrRam2 a v s
  | .rom => wrRom a v s
  | .unmapped => wrUnmapped a v s
  | .kbdData => wrKbdData v s
  | .kbdStatus => wrKbdStatus v s
  | .dspData => wrDspData v s
  | .dspStatus => wrDspStatus v s
  | .piaUnused => wrPiaUnused a v s

/-- `MemRead(a, 1)`: the read dispatch (R143). Exactly one handler runs, and its result is always
driven (by `driveResult`). -/
def memRead (a : Addr) (s : State) : Byte × State :=
  match region a with
  | .ram1 => rdRam1 a s
  | .ram2 => rdRam2 a s
  | .rom => rdRom a s
  | .unmapped => rdUnmapped a s
  | .kbdData => rdKbdData s
  | .kbdStatus => rdKbdStatus s
  | .dspData => rdDspData s
  | .dspStatus => rdDspStatus s
  | .piaUnused => rdPiaUnused a s

/-- The byte a location holds, without the access (no side effect): what a dispatched read of `a`
would drive now. Frames are stated through it. -/
def peek (a : Addr) (s : State) : Byte := (memRead a s).1

end Sys2Proof.Machine
end

