-- ==== Sys2Proof/Machine/BusSampler.lean ====
section
/-!
DEFINITION. The bus sampler, the direction switch, the change gate and the snapshot
(spec/41_bus_sampler.md R120 to R128), and the meanings of the SEQ3 rows P2, P5 and P6.
-/

namespace Sys2Proof.Machine

/-- `updateDirection()` (R122): only on a change does the direction switch touch the pins. -/
def dirUpdate (rw : Level) (s : State) : State :=
  if Dir.ofLevel rw = s.dir then s else s.switchTo (Dir.ofLevel rw)

/-- The change gate (R126): no previous cycle, another address, or another direction. -/
def changed (s : State) : Bool :=
  !s.prevValid || s.addr != s.prevAddr || s.dir != s.prevDir

/-- The dispatched access (R126): a write of the sampled byte `d`, or a read whose byte is driven. -/
def access (d : Byte) (s : State) : State :=
  match s.dir with
  | .cpuWrites => memWrite s.addr d s
  | .cpuReads => driveResult (memRead s.addr s)

/-- The gate, the dispatch and the snapshot update (R126). `d` is the byte on the data lines; a
suppressed cycle and a read cycle do not look at it (R125, R128). -/
def dispatch (d : Byte) (s : State) : State :=
  (if changed s then access d s else s).snapshot

/-- Row `P2_DIR_UPDATE` (R122). -/
def execP2DirUpdate (s : State) : Result := .next ((dirUpdate (sampleRw s) s).setPhase 3#3)

/-- Row `P5_ADDR_SAMPLE` (R120). -/
def execP5AddrSample (s : State) : Result := .next ((s.setAddr (sampleAddr s)).setPhase 6#3)

/-- Row `P6_DISPATCH` (R126). -/
def execP6Dispatch (s : State) : Result := .next ((dispatch (sampleData s) s).setPhase 7#3)

end Sys2Proof.Machine
end

