-- ==== Sys2Proof/Machine/ClockGenerator.lean ====
section
/-!
DEFINITION. The clock generator's phases (spec/40_clock_generator.md R102, R104, R105): the meanings of
the SEQ3 rows P0, P1, P3 and P4. No operation here reads how long a delay took (R251).
-/

namespace Sys2Proof.Machine

/-- Row `P0_CLK_LOW` (R102): `DELAY <- hp ; CLK <- 0 ; PHASE <- 1`. -/
def execP0ClkLow (s : State) : Result :=
  .next (((s.setDelay (sampleHalfPeriod s)).setClk .low).setPhase 1#3)

/-- Row `P1_WAIT_LOW` (R104): `Wait(DELAY) ; PHASE <- PHASE + 1`. -/
def execP1WaitLow (s : State) : Result := .next ((wait s.delay s).setPhase (s.phase + 1#3))

/-- Row `P3_CLK_HIGH` (R105): `CLK <- 1 ; PHASE <- 4`. -/
def execP3ClkHigh (s : State) : Result := .next ((s.setClk .high).setPhase 4#3)

/-- Row `P4_WAIT_HIGH` (R104): `Wait(DELAY) ; PHASE <- PHASE + 1`. -/
def execP4WaitHigh (s : State) : Result := .next ((wait s.delay s).setPhase (s.phase + 1#3))

end Sys2Proof.Machine
end

