-- ==== Sys2Proof/Machine/KeyboardIngestion.lean ====
section
/-!
DEFINITION. The terminal side of the peripheral register file: keyboard ingestion
(spec/44_peripheral_register_file.md R192 to R195, R197, R199, R200), the meanings of the four RX9 rows
and of the SEQ3 row P7. A meaning of an RX9 row takes its byte from `RX` itself, as `RxPoll` does.
-/

namespace Sys2Proof.Machine

/-- `KBD_NONE`: every register unchanged (R192). -/
def kbdNone (s : State) : State := s

/-- `KBD_LF`: nothing beyond the byte's removal from `RX` (R193). -/
def kbdLf (s : State) : State := s

/-- `KBD_CHAR(b)` (R195): the byte with bit 7 forced, and the pending flag. It does not look at the
flag first, so an unread character is overwritten (R197). -/
def kbdChar (b : Byte) (s : State) : State :=
  (s.setKbdData (setFlag b)).setKbdStatus (setFlag s.kbdStatus)

/-- `KBD_DEL`: `KBD_CHAR(KBD_ERASE_BYTE)` (R194). That the remapped byte is stored is the spec's
decision D12 (90_conflicts.md C7); it is not tested again. -/
def kbdDel (s : State) : State := kbdChar s.params.kbdEraseByte s

/-- `KbdPoll(rx)` (R200), the case taken in the order line feed, delete, any other byte (R88). -/
def kbdPoll (rx : Option Byte) (s : State) : State :=
  match rx with
  | none => kbdNone s
  | some b =>
    if b = s.params.kbdLfByte then kbdLf s
    else if b = s.params.kbdDelByte then kbdDel s
    else kbdChar b s

/-- Row `KBD_NONE` (R192). -/
def execKbdNone (s : State) : Result := .next (kbdNone s)

/-- Row `KBD_LF` (R193). -/
def execKbdLf (s : State) : Result := .next (kbdLf (takeRx s))

/-- Row `KBD_DEL` (R194). -/
def execKbdDel (s : State) : Result := .next (kbdDel (takeRx s))

/-- Row `KBD_CHAR` (R195). -/
def execKbdChar (b : Byte) (s : State) : Result := .next (kbdChar b (takeRx s))

/-- The terminal's bytes arrive, `RxPoll()` takes at most one, `KbdPoll` runs its case (R199, R200). -/
def poll (s : State) : State :=
  let s := arrive s
  kbdPoll (rxHead s) (takeRx s)

/-- Row `P7_KBD_POLL` (R200): after it the cycle is over and the next begins at P0. -/
def execP7KbdPoll (s : State) : Result := .next ((poll s).setPhase 0#3).nextCycle

end Sys2Proof.Machine
end

