-- ==== Sys2Proof/Machine/Dispatch.lean ====
section
/-!
DEFINITION. exec: the meaning of each operation, one arm for each row of spec/opcode_table.json.
-/

namespace Sys2Proof.Machine

def exec (i : Instr) (s : State) : Host.Outcome State Fault Refusal :=
  match i with
  | .rdRam1 x => Sys2Proof.Machine.execRdRam1 x s
  | .wrRam1 x => Sys2Proof.Machine.execWrRam1 x s
  | .rdRam2 x => Sys2Proof.Machine.execRdRam2 x s
  | .wrRam2 x => Sys2Proof.Machine.execWrRam2 x s
  | .rdRom x => Sys2Proof.Machine.execRdRom x s
  | .wrRom x => Sys2Proof.Machine.execWrRom x s
  | .rdKbdData => Sys2Proof.Machine.execRdKbdData s
  | .wrKbdData => Sys2Proof.Machine.execWrKbdData s
  | .rdKbdStatus => Sys2Proof.Machine.execRdKbdStatus s
  | .wrKbdStatus => Sys2Proof.Machine.execWrKbdStatus s
  | .rdDspData => Sys2Proof.Machine.execRdDspData s
  | .wrDspData => Sys2Proof.Machine.execWrDspData s
  | .rdDspStatus => Sys2Proof.Machine.execRdDspStatus s
  | .wrDspStatus => Sys2Proof.Machine.execWrDspStatus s
  | .rdPiaUnusedD000 x => Sys2Proof.Machine.execRdPiaUnusedD000 x s
  | .wrPiaUnusedD000 x => Sys2Proof.Machine.execWrPiaUnusedD000 x s
  | .rdPiaUnusedD014 x => Sys2Proof.Machine.execRdPiaUnusedD014 x s
  | .wrPiaUnusedD014 x => Sys2Proof.Machine.execWrPiaUnusedD014 x s
  | .rdPiaUnusedD018 x => Sys2Proof.Machine.execRdPiaUnusedD018 x s
  | .wrPiaUnusedD018 x => Sys2Proof.Machine.execWrPiaUnusedD018 x s
  | .rdPiaUnusedD020 x => Sys2Proof.Machine.execRdPiaUnusedD020 x s
  | .wrPiaUnusedD020 x => Sys2Proof.Machine.execWrPiaUnusedD020 x s
  | .rdPiaUnusedD040 x => Sys2Proof.Machine.execRdPiaUnusedD040 x s
  | .wrPiaUnusedD040 x => Sys2Proof.Machine.execWrPiaUnusedD040 x s
  | .rdPiaUnusedD080 x => Sys2Proof.Machine.execRdPiaUnusedD080 x s
  | .wrPiaUnusedD080 x => Sys2Proof.Machine.execWrPiaUnusedD080 x s
  | .rdPiaUnusedD100 x => Sys2Proof.Machine.execRdPiaUnusedD100 x s
  | .wrPiaUnusedD100 x => Sys2Proof.Machine.execWrPiaUnusedD100 x s
  | .rdPiaUnusedD200 x => Sys2Proof.Machine.execRdPiaUnusedD200 x s
  | .wrPiaUnusedD200 x => Sys2Proof.Machine.execWrPiaUnusedD200 x s
  | .rdPiaUnusedD400 x => Sys2Proof.Machine.execRdPiaUnusedD400 x s
  | .wrPiaUnusedD400 x => Sys2Proof.Machine.execWrPiaUnusedD400 x s
  | .rdPiaUnusedD800 x => Sys2Proof.Machine.execRdPiaUnusedD800 x s
  | .wrPiaUnusedD800 x => Sys2Proof.Machine.execWrPiaUnusedD800 x s
  | .rdUnmapped1000 x => Sys2Proof.Machine.execRdUnmapped1000 x s
  | .wrUnmapped1000 x => Sys2Proof.Machine.execWrUnmapped1000 x s
  | .rdUnmapped2000 x => Sys2Proof.Machine.execRdUnmapped2000 x s
  | .wrUnmapped2000 x => Sys2Proof.Machine.execWrUnmapped2000 x s
  | .rdUnmapped4000 x => Sys2Proof.Machine.execRdUnmapped4000 x s
  | .wrUnmapped4000 x => Sys2Proof.Machine.execWrUnmapped4000 x s
  | .rdUnmapped8000 x => Sys2Proof.Machine.execRdUnmapped8000 x s
  | .wrUnmapped8000 x => Sys2Proof.Machine.execWrUnmapped8000 x s
  | .rdUnmappedC000 x => Sys2Proof.Machine.execRdUnmappedC000 x s
  | .wrUnmappedC000 x => Sys2Proof.Machine.execWrUnmappedC000 x s
  | .rdUnmappedF000 x => Sys2Proof.Machine.execRdUnmappedF000 x s
  | .wrUnmappedF000 x => Sys2Proof.Machine.execWrUnmappedF000 x s
  | .rdUnmappedF800 x => Sys2Proof.Machine.execRdUnmappedF800 x s
  | .wrUnmappedF800 x => Sys2Proof.Machine.execWrUnmappedF800 x s
  | .rdUnmappedFC00 x => Sys2Proof.Machine.execRdUnmappedFC00 x s
  | .wrUnmappedFC00 x => Sys2Proof.Machine.execWrUnmappedFC00 x s
  | .rdUnmappedFE00 x => Sys2Proof.Machine.execRdUnmappedFE00 x s
  | .wrUnmappedFE00 x => Sys2Proof.Machine.execWrUnmappedFE00 x s
  | .kbdNone => Sys2Proof.Machine.execKbdNone s
  | .kbdLf => Sys2Proof.Machine.execKbdLf s
  | .kbdDel => Sys2Proof.Machine.execKbdDel s
  | .kbdChar b => Sys2Proof.Machine.execKbdChar b s
  | .p0ClkLow => Sys2Proof.Machine.execP0ClkLow s
  | .p1WaitLow => Sys2Proof.Machine.execP1WaitLow s
  | .p2DirUpdate => Sys2Proof.Machine.execP2DirUpdate s
  | .p3ClkHigh => Sys2Proof.Machine.execP3ClkHigh s
  | .p4WaitHigh => Sys2Proof.Machine.execP4WaitHigh s
  | .p5AddrSample => Sys2Proof.Machine.execP5AddrSample s
  | .p6Dispatch => Sys2Proof.Machine.execP6Dispatch s
  | .p7KbdPoll => Sys2Proof.Machine.execP7KbdPoll s

end Sys2Proof.Machine
end

