-- ==== Sys2Proof/Machine/Fetch.lean ====
section
/-!
DEFINITION. Placing a word where the machine takes its next operation from. The block fetches nothing
(spec/10_state.md R21): a SEQ3 word is the content of `PHASE`, a BUS17 word is `{DIR, ADDR}` at phase P6
with the change gate open (spec/41_bus_sampler.md R126), an RX9 word is the result of the poll at phase
P7 (spec/44_peripheral_register_file.md R200). Log entry 7.
-/

namespace Sys2Proof.Machine

/-- The direction whose bit is `RW` (R81). -/
def dirOfBit (rw : Bool) : Dir := if rw then .cpuReads else .cpuWrites

/-- A state about to dispatch the bus word `w`: phase P6, the pins set to the word's direction (R39
(a)), no previous cycle, so that the gate is open. -/
def placeBus (w : BitVec 17) (s : State) : State :=
  { s with
    phase := 6#3
    dir := dirOfBit (w.getLsbD 16)
    pinMode := PinMode.ofDir (dirOfBit (w.getLsbD 16))
    addr := w.extractLsb 15 0
    prevValid := false }

/-- A state about to poll the receive word `w`: phase P7, the byte at the head of `RX`, or `RX` empty
and no byte arriving in this cycle. -/
def placeRx (w : BitVec 9) (s : State) : State :=
  (if w.getLsbD 8 then s.setRx (w.extractLsb 7 0 :: s.rx)
   else { s with rx := [], inputs := { current s with rx := [] } :: s.inputs.tail }).setPhase 7#3

/-- A state whose next operation is the word's. -/
def placeWord (w : Word) (s : State) : State :=
  match w with
  | .bus w => placeBus w s
  | .rx w => placeRx w s
  | .seq w => s.setPhase w

end Sys2Proof.Machine
end

