-- ==== Sys2Proof/Machine/Step.lean ====
section
/-!
DEFINITION. One step of the machine: one phase of the cycle loop (spec/40_clock_generator.md R101), the
operation `PHASE` stands for (spec/30_encoding.md R89); and where a word of the opcode table is placed so
that the next step runs it. Log entries 1 and 7.
-/

namespace Sys2Proof.Machine

/-- One phase. P6 runs the BUS17 operation of `{DIR, ADDR}` when the gate is open, P7 the RX9 operation
of the poll. -/
def step (s : State) : Host.Outcome State Fault Refusal := exec (decodeSeq s.phase) s

/-- `s` with a row's word placed where the next step takes its operation from. -/
def State.withFetchWord (s : State) (nbits w : Nat) : State :=
  match wordOf nbits w with
  | .ok word => placeWord word s
  | .error _ => s

end Sys2Proof.Machine
end

