-- ==== Sys2Proof/Machine/Cycle.lean ====
section
/-!
DEFINITION. The whole bus cycle as one function of the state and the five input values: `CYCLE`
(spec/40_clock_generator.md R100), and its first part `PULSE` (R103). The machine of Machine/Step.lean
takes the eight phases one by one; that eight of its steps are one `CYCLE` is R108.
-/

namespace Sys2Proof.Machine

/-- `PULSE` (R103): the clock low, the delay, the direction update, the clock high, the delay again. -/
def pulse (hp : Duration) (rw : Level) (s : State) : State :=
  let s := (s.setDelay hp).setClk .low
  let s := wait s.delay s
  let s := dirUpdate rw s
  let s := s.setClk .high
  wait s.delay s

/-- `CYCLE(hp, rw, a, d, rx)` (R100), line by line. -/
def cycle (hp : Duration) (rw : Level) (a : Addr) (d : Byte) (rx : Option Byte) (s : State) : State :=
  let s := pulse hp rw s
  let s := s.setAddr a
  let s := dispatch d s
  kbdPoll rx s

end Sys2Proof.Machine
end

