-- ==== Sys2Proof/Machine/Ports.lean ====
section
/-!
DEFINITION. The output ports (spec/40_clock_generator.md R109) as views of the state: the levels driven
in a state, and the strobes of a step from one state to another.
-/

namespace Sys2Proof.Machine

/-- `clk_out` equals `CLK` (R22, R109). -/
def clkOut (s : State) : Level := s.clk

/-- What the controller drives on the data lines (R123): `DOUT` while the pins are outputs, nothing
while they are inputs. -/
def drivenData (s : State) : Option Byte :=
  match s.pinMode with
  | .output => some s.dout
  | .input => none

/-- The bytes strobed out on `tx_byte` by a step: what it appended to `TX` (R36, R198). -/
def txStrobes (before after : State) : List Byte := after.tx.drop before.tx.length

/-- Whether phase P7 of the current cycle pulses `rx_take`: a byte waits in `RX` (R199). -/
def rxTake (s : State) : Bool := s.phase == 7#3 && (rxHead (arrive s)).isSome

end Sys2Proof.Machine
end

