-- ==== Sys2Proof/Machine/PowerOn.lean ====
section
/-!
DEFINITION. The block's one reset, port `rst` (spec/70_reset_and_hazards.md R230, spec/60_exceptions.md
R215): a restart from the state of R41 with nothing of the block kept. It is no operation of the opcode
table and no step: the outside world can apply it to any state (log entry 19).
-/

namespace Sys2Proof.Machine

/-- Power-off and power-on, the boot code supplying the images (R232). What belongs to the build (the byte
codes) and to the environment (the bytes in `RX`, the script, the cycle counter) is not the block's.
DESIGN CHOICE (log entry 19): the script and the counter are not advanced, so after a reset in the middle
of a cycle the first cycle is presented the interrupted cycle's script line, or its free values, again;
R230 does not say what the environment presents then. -/
def powerOn (img : Images) (s : State) : State :=
  { State.resetWith s.params img with rx := s.rx, inputs := s.inputs, cycles := s.cycles }

end Sys2Proof.Machine
end

