-- ==== Sys2Proof/Safety.lean ====
section
/-!
DEFINITION. What a state on a run of the block looks like: the invariant of spec/10_state.md R39 at every
phase boundary, with the level of the clock (spec/40_clock_generator.md R106), the snapshot's relation to
the sampled pair (R28) and the canonical form of the banks; and what the phase boundary of a cycle is.
-/

namespace Sys2Proof.Machine

/-- The level of the clock line at a phase boundary (R106): low from the end of P0 to the end of P2. -/
def clkLevel (phase : BitVec 3) : Level :=
  if phase = 1#3 ∨ phase = 2#3 ∨ phase = 3#3 then .low else .high

/-- The invariant every step keeps. -/
structure Inv (s : State) : Prop where
  /-- R39 (a): `PINMODE == DIR`. -/
  pins : s.pinMode = PinMode.ofDir s.dir
  /-- R39 (b): `DSP_DATA[7] == 0`. -/
  display : s.dspData.getLsbD 7 = false
  /-- R106. -/
  clock : s.clk = clkLevel s.phase
  /-- R28: after P6 a previous cycle exists. -/
  seen : s.phase = 7#3 → s.prevValid = true
  /-- R27, R28: outside P5 to P6 the snapshot holds the last sampled address. -/
  sameAddr : s.phase ≠ 6#3 → s.prevValid = true → s.prevAddr = s.addr
  /-- R24, R28: until P2 of the next cycle the snapshot holds the stored direction. -/
  sameDir : s.phase = 0#3 ∨ s.phase = 1#3 ∨ s.phase = 2#3 ∨ s.phase = 7#3 →
    s.prevValid = true → s.prevDir = s.dir
  /-- `RAM1` is in canonical form. -/
  ram1 : s.ram1.wf Config.ramSize
  /-- `RAM2` is in canonical form. -/
  ram2 : s.ram2.wf Config.ramSize
  /-- `ROM` is in canonical form. -/
  rom : s.rom.wf Config.romSize

/-- Images in the canonical form of their banks. -/
abbrev Images.wf (img : Images) : Prop :=
  img.rom.wf Config.romSize ∧ img.ram1.wf Config.ramSize ∧ img.ram2.wf Config.ramSize

end Sys2Proof.Machine
end

