-- ==== Sys2Proof/Certificates/Slice0/Obligations.lean ====
section
/-!
DEFINITION. The statements for the provers, one for each entry of OBLIGATIONS.json. They come from the
numbered rules of spec/; what rests on a decision of the spec or of the model says so.
-/

open Sys2Proof Sys2Proof.Machine

/-- No bit of an encoding is dropped (R81, R83, R84, R87, R88, R89). -/
def Obligations.DecodeEncodeRoundTrip : Prop :=
  ∀ (p : Params) (i : Instr), i.wf p = true → decode p (encode p i) = i

/-- Every BUS17 word is a word of exactly one operation (R87, R90). -/
def Obligations.EncodeDecodeBusWord : Prop :=
  ∀ (p : Params) (w : BitVec 17), encode p (decodeBus w) = .bus w ∧ (decodeBus w).wf p = true

/-- The partition of R87, and the decoder follows it (R91). -/
def Obligations.EachBusWordFitsOneRow : Prop :=
  busTable.length = 52 ∧
    ∀ w : BitVec 17, ∃ r : BusRow,
      busTable.filter (fun r => r.fits w) = [r] ∧ r.mnemonic = (decodeBus w).mnemonic

/-- RX9 rows are tested in priority order (R88, R91). -/
def Obligations.ReceiveWordTakesFirstFittingRow : Prop :=
  ∀ (p : Params) (w : BitVec 9),
    ((rxTable p).find? (fun r => r.fits w)).map (fun r => r.mnemonic) =
      some (decodeRx p w).mnemonic

/-- All eight phase numbers are used (R84, R89). -/
def Obligations.PhaseNumberTakesItsRow : Prop :=
  ∀ (p : Params) (w : BitVec 3), encode p (decodeSeq w) = .seq w ∧
    ∃ r : SeqRow, seqTable.filter (fun r => r.fits w) = [r] ∧ r.mnemonic = (decodeSeq w).mnemonic

/-- A sanity check of the decoder on words of the spec. -/
def Obligations.KnownWordsDecode : Prop :=
  decodeTableWord 24 0x10FFF = some (.rdRam1 0xFFF#12) ∧
    decodeTableWord 24 0x0E123 = some (.wrRam2 0x123#12) ∧
    decodeTableWord 24 0x1FFFC = some (.rdRom 0xFC#8) ∧
    decodeTableWord 24 0x0D012 = some .wrDspData ∧
    decodeTableWord 24 0x1D010 = some .rdKbdData ∧
    decodeTableWord 24 0x1D0FF = some (.rdPiaUnusedD080 0x7F#7) ∧
    decodeTableWord 24 0x17FFF = some (.rdUnmapped4000 0x3FFF#14) ∧
    decodeTableWord 24 0x0FEFF = some (.wrUnmappedFE00 0xFF#8) ∧
    decodeTableWord 16 0x0FF = some .kbdNone ∧
    decodeTableWord 16 0x10A = some .kbdLf ∧
    decodeTableWord 16 0x18A = some (.kbdChar 0x8A#8) ∧
    decodeTableWord 8 0x6 = some .p6Dispatch

/-- The map of R52 against the nested tests of R140. -/
def Obligations.AddressRegions : Prop :=
  ∀ a : Addr, region a =
    if a.toNat ≤ 0x0FFF then .ram1
    else if a.toNat ≤ 0xCFFF then .unmapped
    else if a.toNat ≤ 0xD00F then .piaUnused
    else if a.toNat = 0xD010 then .kbdData
    else if a.toNat = 0xD011 then .kbdStatus
    else if a.toNat = 0xD012 then .dspData
    else if a.toNat = 0xD013 then .dspStatus
    else if a.toNat ≤ 0xDFFF then .piaUnused
    else if a.toNat ≤ 0xEFFF then .ram2
    else if a.toNat ≤ 0xFEFF then .unmapped
    else .rom

/-- The step of the phase-level machine (R101). -/
def Obligations.StepRunsPhaseOperation : Prop :=
  ∀ (s : State) (i : Instr), decode s.params (.seq s.phase) = i → step s = exec i s

/-- The dispatched operation is selected by the BUS17 word (R126). -/
def Obligations.DispatchRunsDecodedBusOperation : Prop :=
  ∀ s : State, s.phase = 6#3 → changed s = true →
    ∃ t : State, exec (decodeBus (busWord s)) s = .next t ∧
      step s = .next { t with prevAddr := s.addr, prevDir := s.dir, prevValid := true, phase := 7#3 }

/-- The case is selected by the RX9 word (R200). -/
def Obligations.PollRunsDecodedReceiveOperation : Prop :=
  ∀ s : State, s.phase = 7#3 →
    ∃ t : State, exec (decodeRx s.params (rxWord (arrive s))) (arrive s) = .next t ∧
      step s = .next { t with phase := 0#3, inputs := s.inputs.tail, cycles := s.cycles + 1 }

/-- No operation raises an exception (R210, R90, R51). -/
def Obligations.EveryOperationAnswersNext : Prop :=
  (∀ (i : Instr) (s : State), ∃ t : State, exec i s = .next t) ∧ ∀ s : State, ∃ t : State, step s = .next t

/-- The store into RAM bank 1 and its frame (R160). -/
def Obligations.WriteRam1StoresByte : Prop :=
  ∀ (i : BitVec 12) (s : State), ∃ t : State, exec (.wrRam1 i) s = .next t ∧
    (∀ j : Nat, t.ram1.read j = if j = i.toNat then sampleData s else s.ram1.read j) ∧
    (∀ b : Addr, peek b t = if b.toNat = i.toNat then sampleData s else peek b s) ∧
    t = { s with ram1 := t.ram1 }

/-- The store into RAM bank 2 and its frame (R161). -/
def Obligations.WriteRam2StoresByte : Prop :=
  ∀ (i : BitVec 12) (s : State), ∃ t : State, exec (.wrRam2 i) s = .next t ∧
    (∀ j : Nat, t.ram2.read j = if j = i.toNat then sampleData s else s.ram2.read j) ∧
    (∀ b : Addr, peek b t = if b.toNat = 0xE000 + i.toNat then sampleData s else peek b s) ∧
    t = { s with ram2 := t.ram2 }

/-- Discarded writes (R162, R163, R191). -/
def Obligations.WriteWithoutBackingChangesNothing : Prop :=
  ∀ s : State,
    (∀ i, exec (.wrRom i) s = .next s) ∧
    (∀ x, exec (.wrPiaUnusedD000 x) s = .next s) ∧
    (∀ x, exec (.wrPiaUnusedD014 x) s = .next s) ∧
    (∀ x, exec (.wrPiaUnusedD018 x) s = .next s) ∧
    (∀ x, exec (.wrPiaUnusedD020 x) s = .next s) ∧
    (∀ x, exec (.wrPiaUnusedD040 x) s = .next s) ∧
    (∀ x, exec (.wrPiaUnusedD080 x) s = .next s) ∧
    (∀ x, exec (.wrPiaUnusedD100 x) s = .next s) ∧
    (∀ x, exec (.wrPiaUnusedD200 x) s = .next s) ∧
    (∀ x, exec (.wrPiaUnusedD400 x) s = .next s) ∧
    (∀ x, exec (.wrPiaUnusedD800 x) s = .next s) ∧
    (∀ x, exec (.wrUnmapped1000 x) s = .next s) ∧
    (∀ x, exec (.wrUnmapped2000 x) s = .next s) ∧
    (∀ x, exec (.wrUnmapped4000 x) s = .next s) ∧
    (∀ x, exec (.wrUnmapped8000 x) s = .next s) ∧
    (∀ x, exec (.wrUnmappedC000 x) s = .next s) ∧
    (∀ x, exec (.wrUnmappedF000 x) s = .next s) ∧
    (∀ x, exec (.wrUnmappedF800 x) s = .next s) ∧
    (∀ x, exec (.wrUnmappedFC00 x) s = .next s) ∧
    (∀ x, exec (.wrUnmappedFE00 x) s = .next s)

/-- The two RAM reads and their frame (R164, R165). -/
def Obligations.ReadRamDrivesCell : Prop :=
  ∀ (i : BitVec 12) (s : State),
    exec (.rdRam1 i) s = .next { s with dout := s.ram1.read i.toNat } ∧
    exec (.rdRam2 i) s = .next { s with dout := s.ram2.read i.toNat } ∧
    peek (BitVec.ofNat 16 i.toNat) s = s.ram1.read i.toNat ∧
    peek (BitVec.ofNat 16 (0xE000 + i.toNat)) s = s.ram2.read i.toNat

/-- The ROM read and its frame (R166). -/
def Obligations.ReadRomDrivesCell : Prop :=
  ∀ (i : BitVec 8) (s : State),
    exec (.rdRom i) s = .next { s with dout := s.rom.read i.toNat } ∧
    peek (BitVec.ofNat 16 (0xFF00 + i.toNat)) s = s.rom.read i.toNat

/-- The zero is driven like any other result (R167). -/
def Obligations.ReadUnmappedDrivesZero : Prop :=
  ∀ s : State,
    (∀ x, exec (.rdUnmapped1000 x) s = .next { s with dout := 0x00#8 }) ∧
    (∀ x, exec (.rdUnmapped2000 x) s = .next { s with dout := 0x00#8 }) ∧
    (∀ x, exec (.rdUnmapped4000 x) s = .next { s with dout := 0x00#8 }) ∧
    (∀ x, exec (.rdUnmapped8000 x) s = .next { s with dout := 0x00#8 }) ∧
    (∀ x, exec (.rdUnmappedC000 x) s = .next { s with dout := 0x00#8 }) ∧
    (∀ x, exec (.rdUnmappedF000 x) s = .next { s with dout := 0x00#8 }) ∧
    (∀ x, exec (.rdUnmappedF800 x) s = .next { s with dout := 0x00#8 }) ∧
    (∀ x, exec (.rdUnmappedFC00 x) s = .next { s with dout := 0x00#8 }) ∧
    (∀ x, exec (.rdUnmappedFE00 x) s = .next { s with dout := 0x00#8 })

/-- The rest of the peripheral range (R190). -/
def Obligations.ReadUnusedPeripheralDrivesZero : Prop :=
  ∀ s : State,
    (∀ x, exec (.rdPiaUnusedD000 x) s = .next { s with dout := 0x00#8 }) ∧
    (∀ x, exec (.rdPiaUnusedD014 x) s = .next { s with dout := 0x00#8 }) ∧
    (∀ x, exec (.rdPiaUnusedD018 x) s = .next { s with dout := 0x00#8 }) ∧
    (∀ x, exec (.rdPiaUnusedD020 x) s = .next { s with dout := 0x00#8 }) ∧
    (∀ x, exec (.rdPiaUnusedD040 x) s = .next { s with dout := 0x00#8 }) ∧
    (∀ x, exec (.rdPiaUnusedD080 x) s = .next { s with dout := 0x00#8 }) ∧
    (∀ x, exec (.rdPiaUnusedD100 x) s = .next { s with dout := 0x00#8 }) ∧
    (∀ x, exec (.rdPiaUnusedD200 x) s = .next { s with dout := 0x00#8 }) ∧
    (∀ x, exec (.rdPiaUnusedD400 x) s = .next { s with dout := 0x00#8 }) ∧
    (∀ x, exec (.rdPiaUnusedD800 x) s = .next { s with dout := 0x00#8 })

/-- The only read with a side effect beyond DOUT (R186, R143). -/
def Obligations.ReadKbdDataConsumesFlag : Prop :=
  ∀ s : State, ∃ t : State, exec .rdKbdData s = .next t ∧ t.dout = s.kbdData ∧
    t.kbdStatus.getLsbD 7 = false ∧ (∀ k, k < 7 → t.kbdStatus.getLsbD k = s.kbdStatus.getLsbD k) ∧
    t = { s with dout := t.dout, kbdStatus := t.kbdStatus }

/-- Reads with no side effect (R187, R188, R189). That a read of DSP_DATA finds bit 7 clear is StepKeepsInvariant. -/
def Obligations.ReadRegistersWithoutSideEffect : Prop :=
  ∀ s : State,
    exec .rdKbdStatus s = .next { s with dout := s.kbdStatus } ∧
    exec .rdDspData s = .next { s with dout := s.dspData } ∧
    exec .rdDspStatus s = .next { s with dout := s.dspStatus } ∧
    peek 0xD011#16 s = s.kbdStatus ∧ peek 0xD012#16 s = s.dspData ∧ peek 0xD013#16 s = s.dspStatus

/-- Verbatim stores (R181, R182, R185). -/
def Obligations.WriteRegistersVerbatim : Prop :=
  ∀ s : State,
    exec .wrKbdData s = .next { s with kbdData := sampleData s } ∧
    exec .wrKbdStatus s = .next { s with kbdStatus := sampleData s } ∧
    exec .wrDspStatus s = .next { s with dspStatus := sampleData s } ∧
    peek 0xD010#16 { s with kbdData := sampleData s } = sampleData s ∧
    peek 0xD011#16 { s with kbdStatus := sampleData s } = sampleData s ∧
    peek 0xD013#16 { s with dspStatus := sampleData s } = sampleData s

/-- The display write (R183); DspBytes is stated in DisplayBytesByCode. -/
def Obligations.WriteDspDataEmitsAndClears : Prop :=
  ∀ s : State, ∃ t : State, exec .wrDspData s = .next t ∧
    t.tx = s.tx ++ dspBytes s.params (sampleData s) ∧ t.dspData.getLsbD 7 = false ∧
    (∀ k, k < 7 → t.dspData.getLsbD k = (sampleData s).getLsbD k) ∧
    t = { s with dspData := t.dspData, tx := t.tx }

/-- Bit 7 of the written byte never matters (R184). -/
def Obligations.DisplayBytesByCode : Prop :=
  ∀ (p : Params) (v : Byte), dspBytes p v =
    if v.toNat % 128 = p.dspCrCode.toNat then [p.termCr, p.termLf]
    else if v.toNat % 128 = p.dspBsCode.toNat then [p.termBs]
    else [BitVec.ofNat 8 (v.toNat % 128)]

/-- The two cases that store nothing (R192, R193). -/
def Obligations.IngestNothingOrLineFeed : Prop :=
  ∀ s : State,
    (s.rx = [] → decodeRx s.params (rxWord s) = .kbdNone) ∧
    (∀ q, s.rx = s.params.kbdLfByte :: q → decodeRx s.params (rxWord s) = .kbdLf) ∧
    exec .kbdNone s = .next s ∧ exec .kbdLf s = .next { s with rx := s.rx.drop 1 }

/-- The stored character (R195, R197). -/
def Obligations.IngestCharacterStoresWithFlags : Prop :=
  ∀ (b : Byte) (s : State),
    (b ≠ s.params.kbdLfByte → b ≠ s.params.kbdDelByte →
      decodeRx s.params (rxWordOf (some b)) = .kbdChar b) ∧
    ∃ t : State, exec (.kbdChar b) s = .next t ∧
    t.kbdData.getLsbD 7 = true ∧ (∀ k, k < 7 → t.kbdData.getLsbD k = b.getLsbD k) ∧
    t.kbdStatus.getLsbD 7 = true ∧ (∀ k, k < 7 → t.kbdStatus.getLsbD k = s.kbdStatus.getLsbD k) ∧
    t = { s with kbdData := t.kbdData, kbdStatus := t.kbdStatus, rx := s.rx.drop 1 }

/-- The remapped delete (R194). -/
def Obligations.IngestDeleteStoresEraseByte : Prop :=
  ∀ s : State,
    (s.params.kbdDelByte ≠ s.params.kbdLfByte →
      decodeRx s.params (rxWordOf (some s.params.kbdDelByte)) = .kbdDel) ∧
    ∃ t : State, exec .kbdDel s = .next t ∧ exec (.kbdChar s.params.kbdEraseByte) s = .next t ∧
    t.kbdData.getLsbD 7 = true ∧ t.kbdStatus.getLsbD 7 = true ∧
    (∀ k, k < 7 → t.kbdData.getLsbD k = s.params.kbdEraseByte.getLsbD k ∧
      t.kbdStatus.getLsbD k = s.kbdStatus.getLsbD k) ∧
    t = { s with kbdData := t.kbdData, kbdStatus := t.kbdStatus, rx := s.rx.drop 1 }

/-- The clock generator (R102, R104, R105). -/
def Obligations.ClockPhases : Prop :=
  ∀ s : State,
    exec .p0ClkLow s = .next { s with delay := sampleHalfPeriod s, clk := .low, phase := 1#3 } ∧
    exec .p3ClkHigh s = .next { s with clk := .high, phase := 4#3 } ∧
    (∃ t : State, exec .p1WaitLow s = .next t ∧ exec .p4WaitHigh s = .next t ∧
      t.phase.toNat = (s.phase.toNat + 1) % 8 ∧ t = { s with phase := t.phase })

/-- The direction switch (R122); the four cases exhaust level and direction. -/
def Obligations.DirectionSwitchOnlyOnChange : Prop :=
  ∀ s : State,
    (sampleRw s = .high → s.dir = .cpuReads → exec .p2DirUpdate s = .next { s with phase := 3#3 }) ∧
    (sampleRw s = .low → s.dir = .cpuWrites → exec .p2DirUpdate s = .next { s with phase := 3#3 }) ∧
    (sampleRw s = .high → s.dir = .cpuWrites → exec .p2DirUpdate s =
      .next { s with dir := .cpuReads, pinMode := .output, phase := 3#3 }) ∧
    (sampleRw s = .low → s.dir = .cpuReads → exec .p2DirUpdate s =
      .next { s with dir := .cpuWrites, pinMode := .input, phase := 3#3 })

/-- The address sample (R120). -/
def Obligations.AddressSampledBitByBit : Prop :=
  ∀ s : State, ∃ t : State, exec .p5AddrSample s = .next t ∧
    (∀ k, k < 16 → t.addr.getLsbD k = (current s).addr.getLsbD k) ∧
    t = { s with addr := t.addr, phase := 6#3 }

/-- The closed gate (R126 to R128). -/
def Obligations.SuppressedDispatchOnlyMovesOn : Prop :=
  ∀ s : State, s.prevValid = true → s.addr = s.prevAddr → s.dir = s.prevDir →
    exec .p6Dispatch s = .next { s with phase := 7#3 }

/-- The open gate (R126). -/
def Obligations.OpenGateDispatchesOneAccess : Prop :=
  ∀ s : State, s.prevValid = false ∨ s.addr ≠ s.prevAddr ∨ s.dir ≠ s.prevDir →
    ∃ t : State, exec .p6Dispatch s = .next t ∧ t =
      { (if s.dir = .cpuWrites then memWrite s.addr (sampleData s) s
         else (memRead s.addr s).2.driveData (memRead s.addr s).1) with
        prevAddr := s.addr, prevDir := s.dir, prevValid := true, phase := 7#3 }

/-- Keyboard ingestion (R200); RX as a list and the script are the model's form of the environment. -/
def Obligations.PollTakesAtMostOneByte : Prop :=
  ∀ s : State, ∃ t : State, exec .p7KbdPoll s = .next t ∧
    t.rx = (s.rx ++ (current s).rx).drop 1 ∧
    ((s.rx ++ (current s).rx).head? = none → t.kbdData = s.kbdData ∧ t.kbdStatus = s.kbdStatus) ∧
    (∀ b, (s.rx ++ (current s).rx).head? = some b →
      if b = s.params.kbdLfByte then t.kbdData = s.kbdData ∧ t.kbdStatus = s.kbdStatus
      else t.kbdStatus = s.kbdStatus ||| 0x80#8 ∧
        t.kbdData = (if b = s.params.kbdDelByte then s.params.kbdEraseByte else b) ||| 0x80#8) ∧
    t = { s with kbdData := t.kbdData, kbdStatus := t.kbdStatus, rx := t.rx, phase := 0#3,
                 inputs := s.inputs.tail, cycles := s.cycles + 1 }

/-- The column "read cycle" of R52. -/
def Obligations.DispatchedReadFollowsMap : Prop :=
  ∀ s : State, s.phase = 6#3 → changed s = true → s.dir = .cpuReads →
    step s = .next { s with
      dout :=
        if s.addr.toNat ≤ 0x0FFF then s.ram1.read s.addr.toNat
        else if s.addr.toNat ≤ 0xD00F then 0x00#8
        else if s.addr.toNat = 0xD010 then s.kbdData
        else if s.addr.toNat = 0xD011 then s.kbdStatus
        else if s.addr.toNat = 0xD012 then s.dspData
        else if s.addr.toNat = 0xD013 then s.dspStatus
        else if s.addr.toNat ≤ 0xDFFF then 0x00#8
        else if s.addr.toNat ≤ 0xEFFF then s.ram2.read (s.addr.toNat - 0xE000)
        else if s.addr.toNat ≤ 0xFEFF then 0x00#8
        else s.rom.read (s.addr.toNat - 0xFF00)
      kbdStatus := if s.addr.toNat = 0xD010 then s.kbdStatus &&& 0x7F#8 else s.kbdStatus
      prevAddr := s.addr
      prevDir := .cpuReads
      prevValid := true
      phase := 7#3 }

/-- The column "write cycle" of R52, with its frame over every address. -/
def Obligations.DispatchedWriteFollowsMap : Prop :=
  ∀ s : State, s.phase = 6#3 → changed s = true → s.dir = .cpuWrites →
    ∃ t : State, step s = .next t ∧
      (∀ b : Addr, b ≠ s.addr → peek b t = peek b s) ∧
      peek s.addr t =
        (if s.addr.toNat ≤ 0x0FFF then sampleData s
        else if s.addr.toNat ≤ 0xD00F then peek s.addr s
        else if s.addr.toNat ≤ 0xD011 then sampleData s
        else if s.addr.toNat = 0xD012 then sampleData s &&& 0x7F#8
        else if s.addr.toNat = 0xD013 then sampleData s
        else if s.addr.toNat ≤ 0xDFFF then peek s.addr s
        else if s.addr.toNat ≤ 0xEFFF then sampleData s
        else peek s.addr s) ∧
      t.tx = (if s.addr.toNat = 0xD012 then s.tx ++ dspBytes s.params (sampleData s) else s.tx) ∧
      t = { s with
        ram1 := t.ram1, ram2 := t.ram2, kbdData := t.kbdData, kbdStatus := t.kbdStatus,
        dspData := t.dspData, dspStatus := t.dspStatus, tx := t.tx,
        prevAddr := s.addr, prevDir := .cpuWrites, prevValid := true, phase := 7#3 }

/-- The column "written by" of R20, every row, over all instructions; RX as State holds it (log entry 6). -/
def Obligations.WritersOfEachElement : Prop :=
  ∀ (i : Instr) (s t : State), exec i s = .next t →
    (t.clk ≠ s.clk → i = .p0ClkLow ∨ i = .p3ClkHigh) ∧
    (t.phase ≠ s.phase → ∃ w : BitVec 3, i = decodeSeq w) ∧
    (t.delay ≠ s.delay → i = .p0ClkLow) ∧
    (t.dir ≠ s.dir ∨ t.pinMode ≠ s.pinMode → i = .p2DirUpdate) ∧
    (t.addr ≠ s.addr → i = .p5AddrSample) ∧
    (t.dout ≠ s.dout → (∃ w : BitVec 17, w.getLsbD 16 = true ∧ i = decodeBus w) ∨ i = .p6Dispatch) ∧
    (t.kbdData ≠ s.kbdData →
      i = .wrKbdData ∨ i = .kbdDel ∨ (∃ b, i = .kbdChar b) ∨ i = .p6Dispatch ∨ i = .p7KbdPoll) ∧
    (t.kbdStatus ≠ s.kbdStatus → i = .wrKbdStatus ∨ i = .rdKbdData ∨ i = .kbdDel ∨
      (∃ b, i = .kbdChar b) ∨ i = .p6Dispatch ∨ i = .p7KbdPoll) ∧
    (t.prevAddr ≠ s.prevAddr ∨ t.prevDir ≠ s.prevDir ∨ t.prevValid ≠ s.prevValid →
      i = .p6Dispatch) ∧
    (t.tx ≠ s.tx ∨ t.dspData ≠ s.dspData → i = .wrDspData ∨ i = .p6Dispatch) ∧
    (t.dspStatus ≠ s.dspStatus → i = .wrDspStatus ∨ i = .p6Dispatch) ∧
    (t.ram1 ≠ s.ram1 → (∃ x, i = .wrRam1 x) ∨ i = .p6Dispatch) ∧
    (t.ram2 ≠ s.ram2 → (∃ x, i = .wrRam2 x) ∨ i = .p6Dispatch) ∧
    (t.rx ≠ s.rx → i = .kbdLf ∨ i = .kbdDel ∨ (∃ b, i = .kbdChar b) ∨ i = .p7KbdPoll) ∧
    t.rom = s.rom ∧ t.params = s.params

/-- The only operation that emits (R36). -/
def Obligations.OnlyDispatchedDisplayWriteEmits : Prop :=
  ∀ s t : State, step s = .next t → t.tx ≠ s.tx →
    s.phase = 6#3 ∧ changed s = true ∧ s.dir = .cpuWrites ∧ s.addr = 0xD012#16 ∧
      ∃ bs : List Byte, t.tx = s.tx ++ bs ∧ (bs.length = 1 ∨ bs.length = 2)

/-- The column "the terminal" of R216. -/
def Obligations.TerminalReachesOnlyKeyboardRegisters : Prop :=
  ∀ (s : State) (q : List Byte) (t u : State),
    step s = .next t → step { s with rx := q } = .next u →
    u = { t with kbdData := u.kbdData, kbdStatus := u.kbdStatus, rx := u.rx } ∧
      ∀ k, k < 7 → u.kbdStatus.getLsbD k = t.kbdStatus.getLsbD k

/-- The invariant of Safety.lean (R39, R106), from every state that meets it. -/
def Obligations.StepKeepsInvariant : Prop :=
  ∀ s t : State, Inv s → step s = .next t → Inv t

/-- The base case of StepKeepsInvariant; the reset values are decisions of the spec (D2, D4 to D7) and of the model (log entry 4). -/
def Obligations.ResetMeetsInvariant : Prop :=
  ∀ (p : Params) (img : Images) (s : State), img.wf → Inv (State.resetWith p img) ∧ Inv (powerOn img s)

/-- The table of R41, for any parameters and from any state before; its entries are decisions of the spec. -/
def Obligations.ResetLoadsTable : Prop :=
  ∀ (p : Params) (img : Images) (s : State),
    s = State.resetWith p img ∨ (∃ before : State, s = powerOn img before) →
    clkOut s = .high ∧ s.phase = 0#3 ∧ s.dir = .cpuWrites ∧ s.pinMode = .input ∧ s.prevValid = false ∧
    peek 0xD010#16 s = 0#8 ∧ peek 0xD011#16 s = 0#8 ∧ peek 0xD012#16 s = 0#8 ∧
    peek 0xD013#16 s = 0#8 ∧ s.tx = [] ∧ drivenData s = none ∧
    (∀ i : BitVec 12, peek (BitVec.ofNat 16 i.toNat) s = img.ram1.read i.toNat ∧
      peek (BitVec.ofNat 16 (0xE000 + i.toNat)) s = img.ram2.read i.toNat) ∧
    (∀ i : BitVec 8, peek (BitVec.ofNat 16 (0xFF00 + i.toNat)) s = img.rom.read i.toNat)

/-- The phase-level machine refines the atomic cycle (R108); one step is one phase (log entry 1), the inputs are a script in State (log entry 5) and RX is a list in State (log entry 6), as the model chose. -/
def Obligations.EightPhasesAreOneCycle : Prop :=
  ∀ s : State, s.phase = 0#3 →
    Host.Core.run Sys2Proof.core 8 s = .next
      { cycle (current s).halfPeriod (current s).rw (current s).addr (current s).data
          (s.rx ++ (current s).rx).head? s with
        rx := (s.rx ++ (current s).rx).tail, inputs := s.inputs.tail, cycles := s.cycles + 1 }

/-- Redundant-cycle suppression (R126) and the repeated-cycle hazard (R240). -/
def Obligations.RepeatedCycleServedOnce : Prop :=
  ∀ (s : State) (hp hp2 : Duration) (rw : Level) (a : Addr) (d d2 : Byte) (rx rx2 : Option Byte),
    cycle hp2 rw a d2 rx2 (cycle hp rw a d rx s) =
      kbdPoll rx2 { cycle hp rw a d rx s with delay := hp2 }

/-- No rule depends on a duration (R251). -/
def Obligations.HalfPeriodChangesOnlyDelay : Prop :=
  ∀ (s : State) (hp hp2 : Duration) (rw : Level) (a : Addr) (d : Byte) (rx : Option Byte),
    cycle hp2 rw a d rx s = { cycle hp rw a d rx s with delay := hp2 }

/-- RAM round-trip (95_test_vectors.md S1). The premise on PINMODE is part of Inv. -/
def Obligations.RamRoundTrip : Prop :=
  ∀ (s : State) (hp hp2 : Duration) (a : Addr) (v d : Byte) (rx rx2 : Option Byte),
    s.pinMode = PinMode.ofDir s.dir →
    a.toNat ≤ 0x0FFF ∨ (0xE000 ≤ a.toNat ∧ a.toNat ≤ 0xEFFF) →
    s.prevValid = false ∨ s.prevAddr ≠ a ∨ s.prevDir ≠ .cpuWrites →
    (cycle hp2 .high a d rx2 (cycle hp .low a v rx s)).dout = v ∧
      drivenData (cycle hp2 .high a d rx2 (cycle hp .low a v rx s)) = some v

/-- ROM immutability (95_test_vectors.md S2). -/
def Obligations.RomImmutability : Prop :=
  (∀ (s : State) (hp hp2 : Duration) (a : Addr) (v d : Byte) (rx rx2 : Option Byte),
    0xFF00 ≤ a.toNat →
    (cycle hp2 .high a d rx2 (cycle hp .low a v rx s)).dout = s.rom.read (a.toNat - 0xFF00)) ∧
    ∀ s t : State, step s = .next t → t.rom = s.rom

/-- The order of dispatch and ingestion within one cycle (R62). -/
def Obligations.IngestionFollowsDispatch : Prop :=
  ∀ (s : State) (hp : Duration) (d b : Byte),
    s.prevValid = false ∨ s.prevAddr ≠ 0xD010#16 ∨ s.prevDir ≠ .cpuReads →
    b ≠ s.params.kbdLfByte → b ≠ s.params.kbdDelByte →
    (cycle hp .high 0xD010#16 d (some b) s).dout = s.kbdData ∧
    (cycle hp .high 0xD010#16 d (some b) s).kbdData = b ||| 0x80#8 ∧
    (cycle hp .high 0xD010#16 d (some b) s).kbdStatus = s.kbdStatus ||| 0x80#8

/-- R39 (c) and the stale drive of R242. -/
def Obligations.SwitchToOutputIsFollowedByRead : Prop :=
  ∀ s : State, Inv s → s.phase = 2#3 → s.pinMode = .input → sampleRw s = .high →
    ∃ t : State, Host.Core.run Sys2Proof.core 4 s = .next t ∧ t.phase = 6#3 ∧
      t.dir = .cpuReads ∧ changed t = true ∧ drivenData t = some s.dout

/-- R39 (e): TX at any time extends TX at any earlier time. -/
def Obligations.TxOnlyGrows : Prop :=
  ∀ (k : Nat) (s t : State), Host.Core.run Sys2Proof.core k s = .next t → s.tx <+: t.tx

/-- The loop is free-running (R107) and never branches (R21). -/
def Obligations.SequencerIsCyclic : Prop :=
  ∀ (k : Nat) (s : State), ∃ t : State, Host.Core.run Sys2Proof.core k s = .next t ∧
    t.phase.toNat = (s.phase.toNat + k) % 8
end

