-- ==== Sys2Proof/Laws/Memory.lean ====
section
/-!
SUPPORT. The laws of a bank: a read after a write, for every list, and that a write keeps the canonical
form.
-/

namespace Sys2Proof.Machine.Memory

variable {m : Memory} {k j size : Nat} {v : Byte}

@[simp] theorem read_nil : read [] k = Config.unlistedByte := rfl

theorem read_cons (c : Host.Cell) : read (c :: m) k = if c.1 = k then c.2 else m.read k := rfl

theorem erase_cons (c : Host.Cell) :
    erase (c :: m) k = if c.1 = k then m.erase k else c :: m.erase k := by
  by_cases h : c.1 = k <;> simp [erase, h]

/-- Erasing a cell makes it read as an unlisted one and touches no other. -/
theorem read_erase : (m.erase k).read j = if j = k then Config.unlistedByte else m.read j := by
  induction m with
  | nil => simp [erase]
  | cons c m ih =>
    rw [erase_cons]
    split <;> simp only [read_cons, ih] <;> split_ifs <;> simp_all

theorem mem_insert {c d : Host.Cell} : d ∈ m.insert c ↔ d = c ∨ d ∈ m := by
  induction m with
  | nil => simp [insert]
  | cons e m ih =>
    rw [insert]
    split <;> simp [ih]
    tauto

/-- Inserting a cell where its index is not listed makes it read so and touches no other. -/
theorem read_insert {c : Host.Cell} (h : ∀ d ∈ m, d.1 ≠ c.1) :
    (m.insert c).read j = if j = c.1 then c.2 else m.read j := by
  induction m with
  | nil => simp only [insert, read_cons, read_nil, eq_comm]
  | cons e m ih =>
    have he : e.1 ≠ c.1 := h e (by simp)
    have ih := ih fun d hd => h d (by simp [hd])
    rw [insert]
    split <;> simp only [read_cons, ih, eq_comm (a := j)]
    by_cases h1 : e.1 = j <;> by_cases h2 : c.1 = j <;> simp only [h1, h2, if_true, if_false]
    exact absurd (h1.trans h2.symm) he

theorem erase_fst_ne {d : Host.Cell} (h : d ∈ m.erase k) : d.1 ≠ k := by
  simpa [erase] using (List.mem_filter.mp h).2

/-- A read after a write: the written byte at its cell, the old byte at every other (R61, R164). -/
@[simp] theorem read_write : (m.write k v).read j = if j = k then v else m.read j := by
  rw [write]
  split
  · next h => rw [read_erase, h]
  · rw [read_insert fun d hd => erase_fst_ne hd, read_erase]
    split <;> simp_all

theorem wf_erase (h : m.wf size) : (m.erase k).wf size :=
  ⟨h.1.filter _, fun c hc => h.2 c (List.mem_filter.mp hc).1⟩

theorem wf_insert {c : Host.Cell} (h : m.wf size) (hk : ∀ d ∈ m, d.1 ≠ c.1) (hc : c.1 < size)
    (hv : c.2 ≠ Config.unlistedByte) : (m.insert c).wf size := by
  refine ⟨?_, fun d hd => ?_⟩
  · have hp := h.1
    clear h
    induction m with
    | nil => simp [insert]
    | cons e m ih =>
      have he : e.1 ≠ c.1 := hk e (by simp)
      obtain ⟨h1, h2⟩ := List.pairwise_cons.mp hp
      rw [insert]
      split
      · next hlt =>
        refine List.pairwise_cons.mpr ⟨fun d hd => ?_, hp⟩
        rcases List.mem_cons.mp hd with rfl | hd
        · exact hlt
        · exact hlt.trans (h1 d hd)
      · next hge =>
        refine List.pairwise_cons.mpr ⟨fun d hd => ?_, ih (fun d hd => hk d (by simp [hd])) h2⟩
        rcases mem_insert.mp hd with rfl | hd
        · omega
        · exact h1 d hd
  · rcases mem_insert.mp hd with rfl | hd
    · exact ⟨hc, hv⟩
    · exact h.2 d hd

/-- Every write inside the bank keeps the canonical form. -/
theorem wf_write (h : m.wf size) (hk : k < size) : (m.write k v).wf size := by
  rw [write]
  split
  · exact wf_erase h
  · next hv => exact wf_insert (wf_erase h) (fun d hd => erase_fst_ne hd) hk hv

/-- The bank that lists nothing is in canonical form. -/
theorem wf_nil : wf size [] := ⟨List.Pairwise.nil, by simp⟩

end Sys2Proof.Machine.Memory
end

