-- ==== Sys2Proof/Laws/State.lean ====
section
/-!
SUPPORT. One lemma for each field of State under each named update of Machine/Ops.lean, so that no proof
unfolds an update; and what `emitAll` does.
-/

namespace Sys2Proof.Machine.State

variable (s : State)

@[simp] theorem setClk_clk (l : Level) : (s.setClk l).clk = l := rfl
@[simp] theorem setClk_phase (l : Level) : (s.setClk l).phase = s.phase := rfl
@[simp] theorem setClk_delay (l : Level) : (s.setClk l).delay = s.delay := rfl
@[simp] theorem setClk_dir (l : Level) : (s.setClk l).dir = s.dir := rfl
@[simp] theorem setClk_pinMode (l : Level) : (s.setClk l).pinMode = s.pinMode := rfl
@[simp] theorem setClk_dout (l : Level) : (s.setClk l).dout = s.dout := rfl
@[simp] theorem setClk_addr (l : Level) : (s.setClk l).addr = s.addr := rfl
@[simp] theorem setClk_prevValid (l : Level) : (s.setClk l).prevValid = s.prevValid := rfl
@[simp] theorem setClk_prevAddr (l : Level) : (s.setClk l).prevAddr = s.prevAddr := rfl
@[simp] theorem setClk_prevDir (l : Level) : (s.setClk l).prevDir = s.prevDir := rfl
@[simp] theorem setClk_ram1 (l : Level) : (s.setClk l).ram1 = s.ram1 := rfl
@[simp] theorem setClk_ram2 (l : Level) : (s.setClk l).ram2 = s.ram2 := rfl
@[simp] theorem setClk_rom (l : Level) : (s.setClk l).rom = s.rom := rfl
@[simp] theorem setClk_kbdData (l : Level) : (s.setClk l).kbdData = s.kbdData := rfl
@[simp] theorem setClk_kbdStatus (l : Level) : (s.setClk l).kbdStatus = s.kbdStatus := rfl
@[simp] theorem setClk_dspData (l : Level) : (s.setClk l).dspData = s.dspData := rfl
@[simp] theorem setClk_dspStatus (l : Level) : (s.setClk l).dspStatus = s.dspStatus := rfl
@[simp] theorem setClk_tx (l : Level) : (s.setClk l).tx = s.tx := rfl
@[simp] theorem setClk_rx (l : Level) : (s.setClk l).rx = s.rx := rfl
@[simp] theorem setClk_params (l : Level) : (s.setClk l).params = s.params := rfl
@[simp] theorem setClk_inputs (l : Level) : (s.setClk l).inputs = s.inputs := rfl
@[simp] theorem setClk_cycles (l : Level) : (s.setClk l).cycles = s.cycles := rfl

@[simp] theorem setPhase_clk (n : BitVec 3) : (s.setPhase n).clk = s.clk := rfl
@[simp] theorem setPhase_phase (n : BitVec 3) : (s.setPhase n).phase = n := rfl
@[simp] theorem setPhase_delay (n : BitVec 3) : (s.setPhase n).delay = s.delay := rfl
@[simp] theorem setPhase_dir (n : BitVec 3) : (s.setPhase n).dir = s.dir := rfl
@[simp] theorem setPhase_pinMode (n : BitVec 3) : (s.setPhase n).pinMode = s.pinMode := rfl
@[simp] theorem setPhase_dout (n : BitVec 3) : (s.setPhase n).dout = s.dout := rfl
@[simp] theorem setPhase_addr (n : BitVec 3) : (s.setPhase n).addr = s.addr := rfl
@[simp] theorem setPhase_prevValid (n : BitVec 3) : (s.setPhase n).prevValid = s.prevValid := rfl
@[simp] theorem setPhase_prevAddr (n : BitVec 3) : (s.setPhase n).prevAddr = s.prevAddr := rfl
@[simp] theorem setPhase_prevDir (n : BitVec 3) : (s.setPhase n).prevDir = s.prevDir := rfl
@[simp] theorem setPhase_ram1 (n : BitVec 3) : (s.setPhase n).ram1 = s.ram1 := rfl
@[simp] theorem setPhase_ram2 (n : BitVec 3) : (s.setPhase n).ram2 = s.ram2 := rfl
@[simp] theorem setPhase_rom (n : BitVec 3) : (s.setPhase n).rom = s.rom := rfl
@[simp] theorem setPhase_kbdData (n : BitVec 3) : (s.setPhase n).kbdData = s.kbdData := rfl
@[simp] theorem setPhase_kbdStatus (n : BitVec 3) : (s.setPhase n).kbdStatus = s.kbdStatus := rfl
@[simp] theorem setPhase_dspData (n : BitVec 3) : (s.setPhase n).dspData = s.dspData := rfl
@[simp] theorem setPhase_dspStatus (n : BitVec 3) : (s.setPhase n).dspStatus = s.dspStatus := rfl
@[simp] theorem setPhase_tx (n : BitVec 3) : (s.setPhase n).tx = s.tx := rfl
@[simp] theorem setPhase_rx (n : BitVec 3) : (s.setPhase n).rx = s.rx := rfl
@[simp] theorem setPhase_params (n : BitVec 3) : (s.setPhase n).params = s.params := rfl
@[simp] theorem setPhase_inputs (n : BitVec 3) : (s.setPhase n).inputs = s.inputs := rfl
@[simp] theorem setPhase_cycles (n : BitVec 3) : (s.setPhase n).cycles = s.cycles := rfl

@[simp] theorem setDelay_clk (d : Duration) : (s.setDelay d).clk = s.clk := rfl
@[simp] theorem setDelay_phase (d : Duration) : (s.setDelay d).phase = s.phase := rfl
@[simp] theorem setDelay_delay (d : Duration) : (s.setDelay d).delay = d := rfl
@[simp] theorem setDelay_dir (d : Duration) : (s.setDelay d).dir = s.dir := rfl
@[simp] theorem setDelay_pinMode (d : Duration) : (s.setDelay d).pinMode = s.pinMode := rfl
@[simp] theorem setDelay_dout (d : Duration) : (s.setDelay d).dout = s.dout := rfl
@[simp] theorem setDelay_addr (d : Duration) : (s.setDelay d).addr = s.addr := rfl
@[simp] theorem setDelay_prevValid (d : Duration) : (s.setDelay d).prevValid = s.prevValid := rfl
@[simp] theorem setDelay_prevAddr (d : Duration) : (s.setDelay d).prevAddr = s.prevAddr := rfl
@[simp] theorem setDelay_prevDir (d : Duration) : (s.setDelay d).prevDir = s.prevDir := rfl
@[simp] theorem setDelay_ram1 (d : Duration) : (s.setDelay d).ram1 = s.ram1 := rfl
@[simp] theorem setDelay_ram2 (d : Duration) : (s.setDelay d).ram2 = s.ram2 := rfl
@[simp] theorem setDelay_rom (d : Duration) : (s.setDelay d).rom = s.rom := rfl
@[simp] theorem setDelay_kbdData (d : Duration) : (s.setDelay d).kbdData = s.kbdData := rfl
@[simp] theorem setDelay_kbdStatus (d : Duration) : (s.setDelay d).kbdStatus = s.kbdStatus := rfl
@[simp] theorem setDelay_dspData (d : Duration) : (s.setDelay d).dspData = s.dspData := rfl
@[simp] theorem setDelay_dspStatus (d : Duration) : (s.setDelay d).dspStatus = s.dspStatus := rfl
@[simp] theorem setDelay_tx (d : Duration) : (s.setDelay d).tx = s.tx := rfl
@[simp] theorem setDelay_rx (d : Duration) : (s.setDelay d).rx = s.rx := rfl
@[simp] theorem setDelay_params (d : Duration) : (s.setDelay d).params = s.params := rfl
@[simp] theorem setDelay_inputs (d : Duration) : (s.setDelay d).inputs = s.inputs := rfl
@[simp] theorem setDelay_cycles (d : Duration) : (s.setDelay d).cycles = s.cycles := rfl

@[simp] theorem switchTo_clk (d : Dir) : (s.switchTo d).clk = s.clk := rfl
@[simp] theorem switchTo_phase (d : Dir) : (s.switchTo d).phase = s.phase := rfl
@[simp] theorem switchTo_delay (d : Dir) : (s.switchTo d).delay = s.delay := rfl
@[simp] theorem switchTo_dir (d : Dir) : (s.switchTo d).dir = d := rfl
@[simp] theorem switchTo_pinMode (d : Dir) : (s.switchTo d).pinMode = PinMode.ofDir d := rfl
@[simp] theorem switchTo_dout (d : Dir) : (s.switchTo d).dout = s.dout := rfl
@[simp] theorem switchTo_addr (d : Dir) : (s.switchTo d).addr = s.addr := rfl
@[simp] theorem switchTo_prevValid (d : Dir) : (s.switchTo d).prevValid = s.prevValid := rfl
@[simp] theorem switchTo_prevAddr (d : Dir) : (s.switchTo d).prevAddr = s.prevAddr := rfl
@[simp] theorem switchTo_prevDir (d : Dir) : (s.switchTo d).prevDir = s.prevDir := rfl
@[simp] theorem switchTo_ram1 (d : Dir) : (s.switchTo d).ram1 = s.ram1 := rfl
@[simp] theorem switchTo_ram2 (d : Dir) : (s.switchTo d).ram2 = s.ram2 := rfl
@[simp] theorem switchTo_rom (d : Dir) : (s.switchTo d).rom = s.rom := rfl
@[simp] theorem switchTo_kbdData (d : Dir) : (s.switchTo d).kbdData = s.kbdData := rfl
@[simp] theorem switchTo_kbdStatus (d : Dir) : (s.switchTo d).kbdStatus = s.kbdStatus := rfl
@[simp] theorem switchTo_dspData (d : Dir) : (s.switchTo d).dspData = s.dspData := rfl
@[simp] theorem switchTo_dspStatus (d : Dir) : (s.switchTo d).dspStatus = s.dspStatus := rfl
@[simp] theorem switchTo_tx (d : Dir) : (s.switchTo d).tx = s.tx := rfl
@[simp] theorem switchTo_rx (d : Dir) : (s.switchTo d).rx = s.rx := rfl
@[simp] theorem switchTo_params (d : Dir) : (s.switchTo d).params = s.params := rfl
@[simp] theorem switchTo_inputs (d : Dir) : (s.switchTo d).inputs = s.inputs := rfl
@[simp] theorem switchTo_cycles (d : Dir) : (s.switchTo d).cycles = s.cycles := rfl

@[simp] theorem driveData_clk (v : Byte) : (s.driveData v).clk = s.clk := rfl
@[simp] theorem driveData_phase (v : Byte) : (s.driveData v).phase = s.phase := rfl
@[simp] theorem driveData_delay (v : Byte) : (s.driveData v).delay = s.delay := rfl
@[simp] theorem driveData_dir (v : Byte) : (s.driveData v).dir = s.dir := rfl
@[simp] theorem driveData_pinMode (v : Byte) : (s.driveData v).pinMode = s.pinMode := rfl
@[simp] theorem driveData_dout (v : Byte) : (s.driveData v).dout = v := rfl
@[simp] theorem driveData_addr (v : Byte) : (s.driveData v).addr = s.addr := rfl
@[simp] theorem driveData_prevValid (v : Byte) : (s.driveData v).prevValid = s.prevValid := rfl
@[simp] theorem driveData_prevAddr (v : Byte) : (s.driveData v).prevAddr = s.prevAddr := rfl
@[simp] theorem driveData_prevDir (v : Byte) : (s.driveData v).prevDir = s.prevDir := rfl
@[simp] theorem driveData_ram1 (v : Byte) : (s.driveData v).ram1 = s.ram1 := rfl
@[simp] theorem driveData_ram2 (v : Byte) : (s.driveData v).ram2 = s.ram2 := rfl
@[simp] theorem driveData_rom (v : Byte) : (s.driveData v).rom = s.rom := rfl
@[simp] theorem driveData_kbdData (v : Byte) : (s.driveData v).kbdData = s.kbdData := rfl
@[simp] theorem driveData_kbdStatus (v : Byte) : (s.driveData v).kbdStatus = s.kbdStatus := rfl
@[simp] theorem driveData_dspData (v : Byte) : (s.driveData v).dspData = s.dspData := rfl
@[simp] theorem driveData_dspStatus (v : Byte) : (s.driveData v).dspStatus = s.dspStatus := rfl
@[simp] theorem driveData_tx (v : Byte) : (s.driveData v).tx = s.tx := rfl
@[simp] theorem driveData_rx (v : Byte) : (s.driveData v).rx = s.rx := rfl
@[simp] theorem driveData_params (v : Byte) : (s.driveData v).params = s.params := rfl
@[simp] theorem driveData_inputs (v : Byte) : (s.driveData v).inputs = s.inputs := rfl
@[simp] theorem driveData_cycles (v : Byte) : (s.driveData v).cycles = s.cycles := rfl

@[simp] theorem setAddr_clk (a : Addr) : (s.setAddr a).clk = s.clk := rfl
@[simp] theorem setAddr_phase (a : Addr) : (s.setAddr a).phase = s.phase := rfl
@[simp] theorem setAddr_delay (a : Addr) : (s.setAddr a).delay = s.delay := rfl
@[simp] theorem setAddr_dir (a : Addr) : (s.setAddr a).dir = s.dir := rfl
@[simp] theorem setAddr_pinMode (a : Addr) : (s.setAddr a).pinMode = s.pinMode := rfl
@[simp] theorem setAddr_dout (a : Addr) : (s.setAddr a).dout = s.dout := rfl
@[simp] theorem setAddr_addr (a : Addr) : (s.setAddr a).addr = a := rfl
@[simp] theorem setAddr_prevValid (a : Addr) : (s.setAddr a).prevValid = s.prevValid := rfl
@[simp] theorem setAddr_prevAddr (a : Addr) : (s.setAddr a).prevAddr = s.prevAddr := rfl
@[simp] theorem setAddr_prevDir (a : Addr) : (s.setAddr a).prevDir = s.prevDir := rfl
@[simp] theorem setAddr_ram1 (a : Addr) : (s.setAddr a).ram1 = s.ram1 := rfl
@[simp] theorem setAddr_ram2 (a : Addr) : (s.setAddr a).ram2 = s.ram2 := rfl
@[simp] theorem setAddr_rom (a : Addr) : (s.setAddr a).rom = s.rom := rfl
@[simp] theorem setAddr_kbdData (a : Addr) : (s.setAddr a).kbdData = s.kbdData := rfl
@[simp] theorem setAddr_kbdStatus (a : Addr) : (s.setAddr a).kbdStatus = s.kbdStatus := rfl
@[simp] theorem setAddr_dspData (a : Addr) : (s.setAddr a).dspData = s.dspData := rfl
@[simp] theorem setAddr_dspStatus (a : Addr) : (s.setAddr a).dspStatus = s.dspStatus := rfl
@[simp] theorem setAddr_tx (a : Addr) : (s.setAddr a).tx = s.tx := rfl
@[simp] theorem setAddr_rx (a : Addr) : (s.setAddr a).rx = s.rx := rfl
@[simp] theorem setAddr_params (a : Addr) : (s.setAddr a).params = s.params := rfl
@[simp] theorem setAddr_inputs (a : Addr) : (s.setAddr a).inputs = s.inputs := rfl
@[simp] theorem setAddr_cycles (a : Addr) : (s.setAddr a).cycles = s.cycles := rfl

@[simp] theorem snapshot_clk : (s.snapshot).clk = s.clk := rfl
@[simp] theorem snapshot_phase : (s.snapshot).phase = s.phase := rfl
@[simp] theorem snapshot_delay : (s.snapshot).delay = s.delay := rfl
@[simp] theorem snapshot_dir : (s.snapshot).dir = s.dir := rfl
@[simp] theorem snapshot_pinMode : (s.snapshot).pinMode = s.pinMode := rfl
@[simp] theorem snapshot_dout : (s.snapshot).dout = s.dout := rfl
@[simp] theorem snapshot_addr : (s.snapshot).addr = s.addr := rfl
@[simp] theorem snapshot_prevValid : (s.snapshot).prevValid = true := rfl
@[simp] theorem snapshot_prevAddr : (s.snapshot).prevAddr = s.addr := rfl
@[simp] theorem snapshot_prevDir : (s.snapshot).prevDir = s.dir := rfl
@[simp] theorem snapshot_ram1 : (s.snapshot).ram1 = s.ram1 := rfl
@[simp] theorem snapshot_ram2 : (s.snapshot).ram2 = s.ram2 := rfl
@[simp] theorem snapshot_rom : (s.snapshot).rom = s.rom := rfl
@[simp] theorem snapshot_kbdData : (s.snapshot).kbdData = s.kbdData := rfl
@[simp] theorem snapshot_kbdStatus : (s.snapshot).kbdStatus = s.kbdStatus := rfl
@[simp] theorem snapshot_dspData : (s.snapshot).dspData = s.dspData := rfl
@[simp] theorem snapshot_dspStatus : (s.snapshot).dspStatus = s.dspStatus := rfl
@[simp] theorem snapshot_tx : (s.snapshot).tx = s.tx := rfl
@[simp] theorem snapshot_rx : (s.snapshot).rx = s.rx := rfl
@[simp] theorem snapshot_params : (s.snapshot).params = s.params := rfl
@[simp] theorem snapshot_inputs : (s.snapshot).inputs = s.inputs := rfl
@[simp] theorem snapshot_cycles : (s.snapshot).cycles = s.cycles := rfl

@[simp] theorem writeRam1_clk (i : Nat) (v : Byte) : (s.writeRam1 i v).clk = s.clk := rfl
@[simp] theorem writeRam1_phase (i : Nat) (v : Byte) : (s.writeRam1 i v).phase = s.phase := rfl
@[simp] theorem writeRam1_delay (i : Nat) (v : Byte) : (s.writeRam1 i v).delay = s.delay := rfl
@[simp] theorem writeRam1_dir (i : Nat) (v : Byte) : (s.writeRam1 i v).dir = s.dir := rfl
@[simp] theorem writeRam1_pinMode (i : Nat) (v : Byte) : (s.writeRam1 i v).pinMode = s.pinMode := rfl
@[simp] theorem writeRam1_dout (i : Nat) (v : Byte) : (s.writeRam1 i v).dout = s.dout := rfl
@[simp] theorem writeRam1_addr (i : Nat) (v : Byte) : (s.writeRam1 i v).addr = s.addr := rfl
@[simp] theorem writeRam1_prevValid (i : Nat) (v : Byte) : (s.writeRam1 i v).prevValid = s.prevValid := rfl
@[simp] theorem writeRam1_prevAddr (i : Nat) (v : Byte) : (s.writeRam1 i v).prevAddr = s.prevAddr := rfl
@[simp] theorem writeRam1_prevDir (i : Nat) (v : Byte) : (s.writeRam1 i v).prevDir = s.prevDir := rfl
@[simp] theorem writeRam1_ram1 (i : Nat) (v : Byte) : (s.writeRam1 i v).ram1 = s.ram1.write i v := rfl
@[simp] theorem writeRam1_ram2 (i : Nat) (v : Byte) : (s.writeRam1 i v).ram2 = s.ram2 := rfl
@[simp] theorem writeRam1_rom (i : Nat) (v : Byte) : (s.writeRam1 i v).rom = s.rom := rfl
@[simp] theorem writeRam1_kbdData (i : Nat) (v : Byte) : (s.writeRam1 i v).kbdData = s.kbdData := rfl
@[simp] theorem writeRam1_kbdStatus (i : Nat) (v : Byte) : (s.writeRam1 i v).kbdStatus = s.kbdStatus := rfl
@[simp] theorem writeRam1_dspData (i : Nat) (v : Byte) : (s.writeRam1 i v).dspData = s.dspData := rfl
@[simp] theorem writeRam1_dspStatus (i : Nat) (v : Byte) : (s.writeRam1 i v).dspStatus = s.dspStatus := rfl
@[simp] theorem writeRam1_tx (i : Nat) (v : Byte) : (s.writeRam1 i v).tx = s.tx := rfl
@[simp] theorem writeRam1_rx (i : Nat) (v : Byte) : (s.writeRam1 i v).rx = s.rx := rfl
@[simp] theorem writeRam1_params (i : Nat) (v : Byte) : (s.writeRam1 i v).params = s.params := rfl
@[simp] theorem writeRam1_inputs (i : Nat) (v : Byte) : (s.writeRam1 i v).inputs = s.inputs := rfl
@[simp] theorem writeRam1_cycles (i : Nat) (v : Byte) : (s.writeRam1 i v).cycles = s.cycles := rfl

@[simp] theorem writeRam2_clk (i : Nat) (v : Byte) : (s.writeRam2 i v).clk = s.clk := rfl
@[simp] theorem writeRam2_phase (i : Nat) (v : Byte) : (s.writeRam2 i v).phase = s.phase := rfl
@[simp] theorem writeRam2_delay (i : Nat) (v : Byte) : (s.writeRam2 i v).delay = s.delay := rfl
@[simp] theorem writeRam2_dir (i : Nat) (v : Byte) : (s.writeRam2 i v).dir = s.dir := rfl
@[simp] theorem writeRam2_pinMode (i : Nat) (v : Byte) : (s.writeRam2 i v).pinMode = s.pinMode := rfl
@[simp] theorem writeRam2_dout (i : Nat) (v : Byte) : (s.writeRam2 i v).dout = s.dout := rfl
@[simp] theorem writeRam2_addr (i : Nat) (v : Byte) : (s.writeRam2 i v).addr = s.addr := rfl
@[simp] theorem writeRam2_prevValid (i : Nat) (v : Byte) : (s.writeRam2 i v).prevValid = s.prevValid := rfl
@[simp] theorem writeRam2_prevAddr (i : Nat) (v : Byte) : (s.writeRam2 i v).prevAddr = s.prevAddr := rfl
@[simp] theorem writeRam2_prevDir (i : Nat) (v : Byte) : (s.writeRam2 i v).prevDir = s.prevDir := rfl
@[simp] theorem writeRam2_ram1 (i : Nat) (v : Byte) : (s.writeRam2 i v).ram1 = s.ram1 := rfl
@[simp] theorem writeRam2_ram2 (i : Nat) (v : Byte) : (s.writeRam2 i v).ram2 = s.ram2.write i v := rfl
@[simp] theorem writeRam2_rom (i : Nat) (v : Byte) : (s.writeRam2 i v).rom = s.rom := rfl
@[simp] theorem writeRam2_kbdData (i : Nat) (v : Byte) : (s.writeRam2 i v).kbdData = s.kbdData := rfl
@[simp] theorem writeRam2_kbdStatus (i : Nat) (v : Byte) : (s.writeRam2 i v).kbdStatus = s.kbdStatus := rfl
@[simp] theorem writeRam2_dspData (i : Nat) (v : Byte) : (s.writeRam2 i v).dspData = s.dspData := rfl
@[simp] theorem writeRam2_dspStatus (i : Nat) (v : Byte) : (s.writeRam2 i v).dspStatus = s.dspStatus := rfl
@[simp] theorem writeRam2_tx (i : Nat) (v : Byte) : (s.writeRam2 i v).tx = s.tx := rfl
@[simp] theorem writeRam2_rx (i : Nat) (v : Byte) : (s.writeRam2 i v).rx = s.rx := rfl
@[simp] theorem writeRam2_params (i : Nat) (v : Byte) : (s.writeRam2 i v).params = s.params := rfl
@[simp] theorem writeRam2_inputs (i : Nat) (v : Byte) : (s.writeRam2 i v).inputs = s.inputs := rfl
@[simp] theorem writeRam2_cycles (i : Nat) (v : Byte) : (s.writeRam2 i v).cycles = s.cycles := rfl

@[simp] theorem setKbdData_clk (v : Byte) : (s.setKbdData v).clk = s.clk := rfl
@[simp] theorem setKbdData_phase (v : Byte) : (s.setKbdData v).phase = s.phase := rfl
@[simp] theorem setKbdData_delay (v : Byte) : (s.setKbdData v).delay = s.delay := rfl
@[simp] theorem setKbdData_dir (v : Byte) : (s.setKbdData v).dir = s.dir := rfl
@[simp] theorem setKbdData_pinMode (v : Byte) : (s.setKbdData v).pinMode = s.pinMode := rfl
@[simp] theorem setKbdData_dout (v : Byte) : (s.setKbdData v).dout = s.dout := rfl
@[simp] theorem setKbdData_addr (v : Byte) : (s.setKbdData v).addr = s.addr := rfl
@[simp] theorem setKbdData_prevValid (v : Byte) : (s.setKbdData v).prevValid = s.prevValid := rfl
@[simp] theorem setKbdData_prevAddr (v : Byte) : (s.setKbdData v).prevAddr = s.prevAddr := rfl
@[simp] theorem setKbdData_prevDir (v : Byte) : (s.setKbdData v).prevDir = s.prevDir := rfl
@[simp] theorem setKbdData_ram1 (v : Byte) : (s.setKbdData v).ram1 = s.ram1 := rfl
@[simp] theorem setKbdData_ram2 (v : Byte) : (s.setKbdData v).ram2 = s.ram2 := rfl
@[simp] theorem setKbdData_rom (v : Byte) : (s.setKbdData v).rom = s.rom := rfl
@[simp] theorem setKbdData_kbdData (v : Byte) : (s.setKbdData v).kbdData = v := rfl
@[simp] theorem setKbdData_kbdStatus (v : Byte) : (s.setKbdData v).kbdStatus = s.kbdStatus := rfl
@[simp] theorem setKbdData_dspData (v : Byte) : (s.setKbdData v).dspData = s.dspData := rfl
@[simp] theorem setKbdData_dspStatus (v : Byte) : (s.setKbdData v).dspStatus = s.dspStatus := rfl
@[simp] theorem setKbdData_tx (v : Byte) : (s.setKbdData v).tx = s.tx := rfl
@[simp] theorem setKbdData_rx (v : Byte) : (s.setKbdData v).rx = s.rx := rfl
@[simp] theorem setKbdData_params (v : Byte) : (s.setKbdData v).params = s.params := rfl
@[simp] theorem setKbdData_inputs (v : Byte) : (s.setKbdData v).inputs = s.inputs := rfl
@[simp] theorem setKbdData_cycles (v : Byte) : (s.setKbdData v).cycles = s.cycles := rfl

@[simp] theorem setKbdStatus_clk (v : Byte) : (s.setKbdStatus v).clk = s.clk := rfl
@[simp] theorem setKbdStatus_phase (v : Byte) : (s.setKbdStatus v).phase = s.phase := rfl
@[simp] theorem setKbdStatus_delay (v : Byte) : (s.setKbdStatus v).delay = s.delay := rfl
@[simp] theorem setKbdStatus_dir (v : Byte) : (s.setKbdStatus v).dir = s.dir := rfl
@[simp] theorem setKbdStatus_pinMode (v : Byte) : (s.setKbdStatus v).pinMode = s.pinMode := rfl
@[simp] theorem setKbdStatus_dout (v : Byte) : (s.setKbdStatus v).dout = s.dout := rfl
@[simp] theorem setKbdStatus_addr (v : Byte) : (s.setKbdStatus v).addr = s.addr := rfl
@[simp] theorem setKbdStatus_prevValid (v : Byte) : (s.setKbdStatus v).prevValid = s.prevValid := rfl
@[simp] theorem setKbdStatus_prevAddr (v : Byte) : (s.setKbdStatus v).prevAddr = s.prevAddr := rfl
@[simp] theorem setKbdStatus_prevDir (v : Byte) : (s.setKbdStatus v).prevDir = s.prevDir := rfl
@[simp] theorem setKbdStatus_ram1 (v : Byte) : (s.setKbdStatus v).ram1 = s.ram1 := rfl
@[simp] theorem setKbdStatus_ram2 (v : Byte) : (s.setKbdStatus v).ram2 = s.ram2 := rfl
@[simp] theorem setKbdStatus_rom (v : Byte) : (s.setKbdStatus v).rom = s.rom := rfl
@[simp] theorem setKbdStatus_kbdData (v : Byte) : (s.setKbdStatus v).kbdData = s.kbdData := rfl
@[simp] theorem setKbdStatus_kbdStatus (v : Byte) : (s.setKbdStatus v).kbdStatus = v := rfl
@[simp] theorem setKbdStatus_dspData (v : Byte) : (s.setKbdStatus v).dspData = s.dspData := rfl
@[simp] theorem setKbdStatus_dspStatus (v : Byte) : (s.setKbdStatus v).dspStatus = s.dspStatus := rfl
@[simp] theorem setKbdStatus_tx (v : Byte) : (s.setKbdStatus v).tx = s.tx := rfl
@[simp] theorem setKbdStatus_rx (v : Byte) : (s.setKbdStatus v).rx = s.rx := rfl
@[simp] theorem setKbdStatus_params (v : Byte) : (s.setKbdStatus v).params = s.params := rfl
@[simp] theorem setKbdStatus_inputs (v : Byte) : (s.setKbdStatus v).inputs = s.inputs := rfl
@[simp] theorem setKbdStatus_cycles (v : Byte) : (s.setKbdStatus v).cycles = s.cycles := rfl

@[simp] theorem setDspData_clk (v : Byte) : (s.setDspData v).clk = s.clk := rfl
@[simp] theorem setDspData_phase (v : Byte) : (s.setDspData v).phase = s.phase := rfl
@[simp] theorem setDspData_delay (v : Byte) : (s.setDspData v).delay = s.delay := rfl
@[simp] theorem setDspData_dir (v : Byte) : (s.setDspData v).dir = s.dir := rfl
@[simp] theorem setDspData_pinMode (v : Byte) : (s.setDspData v).pinMode = s.pinMode := rfl
@[simp] theorem setDspData_dout (v : Byte) : (s.setDspData v).dout = s.dout := rfl
@[simp] theorem setDspData_addr (v : Byte) : (s.setDspData v).addr = s.addr := rfl
@[simp] theorem setDspData_prevValid (v : Byte) : (s.setDspData v).prevValid = s.prevValid := rfl
@[simp] theorem setDspData_prevAddr (v : Byte) : (s.setDspData v).prevAddr = s.prevAddr := rfl
@[simp] theorem setDspData_prevDir (v : Byte) : (s.setDspData v).prevDir = s.prevDir := rfl
@[simp] theorem setDspData_ram1 (v : Byte) : (s.setDspData v).ram1 = s.ram1 := rfl
@[simp] theorem setDspData_ram2 (v : Byte) : (s.setDspData v).ram2 = s.ram2 := rfl
@[simp] theorem setDspData_rom (v : Byte) : (s.setDspData v).rom = s.rom := rfl
@[simp] theorem setDspData_kbdData (v : Byte) : (s.setDspData v).kbdData = s.kbdData := rfl
@[simp] theorem setDspData_kbdStatus (v : Byte) : (s.setDspData v).kbdStatus = s.kbdStatus := rfl
@[simp] theorem setDspData_dspData (v : Byte) : (s.setDspData v).dspData = v := rfl
@[simp] theorem setDspData_dspStatus (v : Byte) : (s.setDspData v).dspStatus = s.dspStatus := rfl
@[simp] theorem setDspData_tx (v : Byte) : (s.setDspData v).tx = s.tx := rfl
@[simp] theorem setDspData_rx (v : Byte) : (s.setDspData v).rx = s.rx := rfl
@[simp] theorem setDspData_params (v : Byte) : (s.setDspData v).params = s.params := rfl
@[simp] theorem setDspData_inputs (v : Byte) : (s.setDspData v).inputs = s.inputs := rfl
@[simp] theorem setDspData_cycles (v : Byte) : (s.setDspData v).cycles = s.cycles := rfl

@[simp] theorem setDspStatus_clk (v : Byte) : (s.setDspStatus v).clk = s.clk := rfl
@[simp] theorem setDspStatus_phase (v : Byte) : (s.setDspStatus v).phase = s.phase := rfl
@[simp] theorem setDspStatus_delay (v : Byte) : (s.setDspStatus v).delay = s.delay := rfl
@[simp] theorem setDspStatus_dir (v : Byte) : (s.setDspStatus v).dir = s.dir := rfl
@[simp] theorem setDspStatus_pinMode (v : Byte) : (s.setDspStatus v).pinMode = s.pinMode := rfl
@[simp] theorem setDspStatus_dout (v : Byte) : (s.setDspStatus v).dout = s.dout := rfl
@[simp] theorem setDspStatus_addr (v : Byte) : (s.setDspStatus v).addr = s.addr := rfl
@[simp] theorem setDspStatus_prevValid (v : Byte) : (s.setDspStatus v).prevValid = s.prevValid := rfl
@[simp] theorem setDspStatus_prevAddr (v : Byte) : (s.setDspStatus v).prevAddr = s.prevAddr := rfl
@[simp] theorem setDspStatus_prevDir (v : Byte) : (s.setDspStatus v).prevDir = s.prevDir := rfl
@[simp] theorem setDspStatus_ram1 (v : Byte) : (s.setDspStatus v).ram1 = s.ram1 := rfl
@[simp] theorem setDspStatus_ram2 (v : Byte) : (s.setDspStatus v).ram2 = s.ram2 := rfl
@[simp] theorem setDspStatus_rom (v : Byte) : (s.setDspStatus v).rom = s.rom := rfl
@[simp] theorem setDspStatus_kbdData (v : Byte) : (s.setDspStatus v).kbdData = s.kbdData := rfl
@[simp] theorem setDspStatus_kbdStatus (v : Byte) : (s.setDspStatus v).kbdStatus = s.kbdStatus := rfl
@[simp] theorem setDspStatus_dspData (v : Byte) : (s.setDspStatus v).dspData = s.dspData := rfl
@[simp] theorem setDspStatus_dspStatus (v : Byte) : (s.setDspStatus v).dspStatus = v := rfl
@[simp] theorem setDspStatus_tx (v : Byte) : (s.setDspStatus v).tx = s.tx := rfl
@[simp] theorem setDspStatus_rx (v : Byte) : (s.setDspStatus v).rx = s.rx := rfl
@[simp] theorem setDspStatus_params (v : Byte) : (s.setDspStatus v).params = s.params := rfl
@[simp] theorem setDspStatus_inputs (v : Byte) : (s.setDspStatus v).inputs = s.inputs := rfl
@[simp] theorem setDspStatus_cycles (v : Byte) : (s.setDspStatus v).cycles = s.cycles := rfl

@[simp] theorem emit_clk (b : Byte) : (s.emit b).clk = s.clk := rfl
@[simp] theorem emit_phase (b : Byte) : (s.emit b).phase = s.phase := rfl
@[simp] theorem emit_delay (b : Byte) : (s.emit b).delay = s.delay := rfl
@[simp] theorem emit_dir (b : Byte) : (s.emit b).dir = s.dir := rfl
@[simp] theorem emit_pinMode (b : Byte) : (s.emit b).pinMode = s.pinMode := rfl
@[simp] theorem emit_dout (b : Byte) : (s.emit b).dout = s.dout := rfl
@[simp] theorem emit_addr (b : Byte) : (s.emit b).addr = s.addr := rfl
@[simp] theorem emit_prevValid (b : Byte) : (s.emit b).prevValid = s.prevValid := rfl
@[simp] theorem emit_prevAddr (b : Byte) : (s.emit b).prevAddr = s.prevAddr := rfl
@[simp] theorem emit_prevDir (b : Byte) : (s.emit b).prevDir = s.prevDir := rfl
@[simp] theorem emit_ram1 (b : Byte) : (s.emit b).ram1 = s.ram1 := rfl
@[simp] theorem emit_ram2 (b : Byte) : (s.emit b).ram2 = s.ram2 := rfl
@[simp] theorem emit_rom (b : Byte) : (s.emit b).rom = s.rom := rfl
@[simp] theorem emit_kbdData (b : Byte) : (s.emit b).kbdData = s.kbdData := rfl
@[simp] theorem emit_kbdStatus (b : Byte) : (s.emit b).kbdStatus = s.kbdStatus := rfl
@[simp] theorem emit_dspData (b : Byte) : (s.emit b).dspData = s.dspData := rfl
@[simp] theorem emit_dspStatus (b : Byte) : (s.emit b).dspStatus = s.dspStatus := rfl
@[simp] theorem emit_tx (b : Byte) : (s.emit b).tx = s.tx ++ [b] := rfl
@[simp] theorem emit_rx (b : Byte) : (s.emit b).rx = s.rx := rfl
@[simp] theorem emit_params (b : Byte) : (s.emit b).params = s.params := rfl
@[simp] theorem emit_inputs (b : Byte) : (s.emit b).inputs = s.inputs := rfl
@[simp] theorem emit_cycles (b : Byte) : (s.emit b).cycles = s.cycles := rfl

@[simp] theorem setRx_clk (q : List Byte) : (s.setRx q).clk = s.clk := rfl
@[simp] theorem setRx_phase (q : List Byte) : (s.setRx q).phase = s.phase := rfl
@[simp] theorem setRx_delay (q : List Byte) : (s.setRx q).delay = s.delay := rfl
@[simp] theorem setRx_dir (q : List Byte) : (s.setRx q).dir = s.dir := rfl
@[simp] theorem setRx_pinMode (q : List Byte) : (s.setRx q).pinMode = s.pinMode := rfl
@[simp] theorem setRx_dout (q : List Byte) : (s.setRx q).dout = s.dout := rfl
@[simp] theorem setRx_addr (q : List Byte) : (s.setRx q).addr = s.addr := rfl
@[simp] theorem setRx_prevValid (q : List Byte) : (s.setRx q).prevValid = s.prevValid := rfl
@[simp] theorem setRx_prevAddr (q : List Byte) : (s.setRx q).prevAddr = s.prevAddr := rfl
@[simp] theorem setRx_prevDir (q : List Byte) : (s.setRx q).prevDir = s.prevDir := rfl
@[simp] theorem setRx_ram1 (q : List Byte) : (s.setRx q).ram1 = s.ram1 := rfl
@[simp] theorem setRx_ram2 (q : List Byte) : (s.setRx q).ram2 = s.ram2 := rfl
@[simp] theorem setRx_rom (q : List Byte) : (s.setRx q).rom = s.rom := rfl
@[simp] theorem setRx_kbdData (q : List Byte) : (s.setRx q).kbdData = s.kbdData := rfl
@[simp] theorem setRx_kbdStatus (q : List Byte) : (s.setRx q).kbdStatus = s.kbdStatus := rfl
@[simp] theorem setRx_dspData (q : List Byte) : (s.setRx q).dspData = s.dspData := rfl
@[simp] theorem setRx_dspStatus (q : List Byte) : (s.setRx q).dspStatus = s.dspStatus := rfl
@[simp] theorem setRx_tx (q : List Byte) : (s.setRx q).tx = s.tx := rfl
@[simp] theorem setRx_rx (q : List Byte) : (s.setRx q).rx = q := rfl
@[simp] theorem setRx_params (q : List Byte) : (s.setRx q).params = s.params := rfl
@[simp] theorem setRx_inputs (q : List Byte) : (s.setRx q).inputs = s.inputs := rfl
@[simp] theorem setRx_cycles (q : List Byte) : (s.setRx q).cycles = s.cycles := rfl

@[simp] theorem nextCycle_clk : (s.nextCycle).clk = s.clk := rfl
@[simp] theorem nextCycle_phase : (s.nextCycle).phase = s.phase := rfl
@[simp] theorem nextCycle_delay : (s.nextCycle).delay = s.delay := rfl
@[simp] theorem nextCycle_dir : (s.nextCycle).dir = s.dir := rfl
@[simp] theorem nextCycle_pinMode : (s.nextCycle).pinMode = s.pinMode := rfl
@[simp] theorem nextCycle_dout : (s.nextCycle).dout = s.dout := rfl
@[simp] theorem nextCycle_addr : (s.nextCycle).addr = s.addr := rfl
@[simp] theorem nextCycle_prevValid : (s.nextCycle).prevValid = s.prevValid := rfl
@[simp] theorem nextCycle_prevAddr : (s.nextCycle).prevAddr = s.prevAddr := rfl
@[simp] theorem nextCycle_prevDir : (s.nextCycle).prevDir = s.prevDir := rfl
@[simp] theorem nextCycle_ram1 : (s.nextCycle).ram1 = s.ram1 := rfl
@[simp] theorem nextCycle_ram2 : (s.nextCycle).ram2 = s.ram2 := rfl
@[simp] theorem nextCycle_rom : (s.nextCycle).rom = s.rom := rfl
@[simp] theorem nextCycle_kbdData : (s.nextCycle).kbdData = s.kbdData := rfl
@[simp] theorem nextCycle_kbdStatus : (s.nextCycle).kbdStatus = s.kbdStatus := rfl
@[simp] theorem nextCycle_dspData : (s.nextCycle).dspData = s.dspData := rfl
@[simp] theorem nextCycle_dspStatus : (s.nextCycle).dspStatus = s.dspStatus := rfl
@[simp] theorem nextCycle_tx : (s.nextCycle).tx = s.tx := rfl
@[simp] theorem nextCycle_rx : (s.nextCycle).rx = s.rx := rfl
@[simp] theorem nextCycle_params : (s.nextCycle).params = s.params := rfl
@[simp] theorem nextCycle_inputs : (s.nextCycle).inputs = s.inputs.tail := rfl
@[simp] theorem nextCycle_cycles : (s.nextCycle).cycles = s.cycles + 1 := rfl

/-- `Emit` of a list appends the list to `TX` and changes nothing else (R198). -/
theorem emitAll_eq (bs : List Byte) : ∀ s : State, s.emitAll bs = { s with tx := s.tx ++ bs } := by
  induction bs with
  | nil => intro s; simp [emitAll]
  | cons b bs ih => intro s; simp [emitAll, ih, emit]

end Sys2Proof.Machine.State
end

