-- ==== Sys2Proof/Laws/Handlers.lean ====
section
/-!
SUPPORT. One lemma for each shared operation that says once everything it can do; later proofs cite it
and do not unfold the operation.
-/

namespace Sys2Proof.Machine

/-- The flag computations touch bit 7 only. -/
@[simp] theorem getLsbD_setFlag (v : Byte) (k : Nat) :
    (setFlag v).getLsbD k = (v.getLsbD k || decide (k = 7)) := by
  by_cases h : k < 8
  · interval_cases k <;> simp [setFlag]
  · simp [setFlag, BitVec.getLsbD_of_ge v k (by omega), BitVec.getLsbD_of_ge 0x80#8 k (by omega)]
    omega

@[simp] theorem getLsbD_clearFlag (v : Byte) (k : Nat) :
    (clearFlag v).getLsbD k = (v.getLsbD k && decide (k ≠ 7)) := by
  by_cases h : k < 8
  · interval_cases k <;> simp [clearFlag]
  · simp [clearFlag, BitVec.getLsbD_of_ge v k (by omega)]

@[simp] theorem getElem_setFlag_seven (v : Byte) : (setFlag v)[7] = true := by
  rw [← BitVec.getLsbD_eq_getElem, getLsbD_setFlag]
  simp

@[simp] theorem getElem_clearFlag_seven (v : Byte) : (clearFlag v)[7] = false := by
  rw [← BitVec.getLsbD_eq_getElem, getLsbD_clearFlag]
  simp

/-- `DspBytes` sends one byte or two (R36, R184). -/
theorem dspBytes_length (p : Params) (v : Byte) :
    (dspBytes p v).length = 1 ∨ (dspBytes p v).length = 2 := by
  rw [dspBytes]
  split_ifs <;> simp

/-- The net effect of a display write (R183). -/
theorem wrDspData_eq (v : Byte) (s : State) :
    wrDspData v s = { s with dspData := clearFlag v, tx := s.tx ++ dspBytes s.params v } := by
  simp [wrDspData, State.emitAll_eq, State.setDspData]

/-- After the direction update the direction is the sampled one; the pins change only with it (R122). -/
theorem dirUpdate_eq (rw : Level) (s : State) :
    dirUpdate rw s = { s with
      dir := Dir.ofLevel rw
      pinMode := if Dir.ofLevel rw = s.dir then s.pinMode else PinMode.ofDir (Dir.ofLevel rw) } := by
  by_cases h : Dir.ofLevel rw = s.dir
  · simp [dirUpdate, h]
  · simp [dirUpdate, h, State.switchTo]

/-- The only read with a side effect is that of `KBD_DATA` (R143, R186). -/
theorem memRead_snd (a : Addr) (s : State) :
    (memRead a s).2 =
      if region a = .kbdData then s.setKbdStatus (clearFlag s.kbdStatus) else s := by
  rw [memRead]
  cases h : region a <;> simp <;> rfl

/-- What a read cycle changes: `DOUT`, and `KBD_STATUS[7]` for `KBD_DATA`. -/
theorem readAccess_eq (a : Addr) (s : State) :
    driveResult (memRead a s) = { s with
      dout := peek a s
      kbdStatus := if region a = .kbdData then clearFlag s.kbdStatus else s.kbdStatus } := by
  rw [driveResult, memRead_snd]
  split <;> rfl

/-- What a write cycle can change: a cell, a register, the outbound stream. `DOUT` is untouched, and so
is everything that is not on the bus side (R142, R168). -/
theorem memWrite_eq (a : Addr) (v : Byte) (s : State) :
    memWrite a v s = { s with
      ram1 := if region a = .ram1 then s.ram1.write a.toNat v else s.ram1
      ram2 := if region a = .ram2 then s.ram2.write (a - Config.ram2Base).toNat v else s.ram2
      kbdData := if region a = .kbdData then v else s.kbdData
      kbdStatus := if region a = .kbdStatus then v else s.kbdStatus
      dspData := if region a = .dspData then clearFlag v else s.dspData
      dspStatus := if region a = .dspStatus then v else s.dspStatus
      tx := if region a = .dspData then s.tx ++ dspBytes s.params v else s.tx } := by
  rw [memWrite]
  cases region a <;> simp [wrDspData_eq] <;> rfl

/-- What an ingestion case changes: the two keyboard registers (R192 to R195). -/
theorem kbdPoll_eq (rx : Option Byte) (s : State) :
    kbdPoll rx s = { s with kbdData := (kbdPoll rx s).kbdData, kbdStatus := (kbdPoll rx s).kbdStatus } := by
  unfold kbdPoll
  split
  · rfl
  · split_ifs <;> rfl

/-- What a dispatched access can change, whichever direction it has: the elements the decoder's handlers
reach, and `DOUT` (R142, R143). -/
theorem access_eq (d : Byte) (s : State) :
    access d s = { s with
      dout := (access d s).dout
      ram1 := (access d s).ram1
      ram2 := (access d s).ram2
      kbdData := (access d s).kbdData
      kbdStatus := (access d s).kbdStatus
      dspData := (access d s).dspData
      dspStatus := (access d s).dspStatus
      tx := (access d s).tx } := by
  unfold access
  split
  · rw [memWrite_eq]
  · rw [readAccess_eq]

theorem access_of_write {d : Byte} {s : State} (h : s.dir = .cpuWrites) :
    access d s = memWrite s.addr d s := by
  rw [access, h]

theorem access_of_read {d : Byte} {s : State} (h : s.dir = .cpuReads) :
    access d s = driveResult (memRead s.addr s) := by
  rw [access, h]

/-- The dispatch, suppressed or not, ends with the snapshot of the sampled pair (R126). -/
theorem dispatch_eq (d : Byte) (s : State) :
    dispatch d s =
      if changed s then (access d s).snapshot else s.snapshot := by
  rw [dispatch]
  split <;> rfl

/-- The gate opens exactly when there is no previous cycle or the pair differs from the snapshot. -/
theorem changed_eq_true (s : State) :
    changed s = true ↔ s.prevValid = false ∨ s.addr ≠ s.prevAddr ∨ s.dir ≠ s.prevDir := by
  simp [changed, or_assoc]

end Sys2Proof.Machine
end

