-- ==== Sys2Proof/Laws/Words.lean ====
section
/-!
SUPPORT. Arithmetic of words: a concatenation and a slice as numbers, and when a word made of a prefix and
an operand fits a prefix mask. The proofs about the encodings cite these and finish with omega.
-/

namespace Sys2Proof.Words

variable {m n : Nat}

/-- `{x, y}` as a number. -/
theorem toNat_append_add (x : BitVec m) (y : BitVec n) :
    (x ++ y).toNat = x.toNat * 2 ^ n + y.toNat := by
  rw [BitVec.toNat_append, ← Nat.shiftLeft_add_eq_or_of_lt y.isLt, Nat.shiftLeft_eq]

/-- `v[hi:lo]` as a number. -/
theorem toNat_slice (v : BitVec n) (hi lo : Nat) :
    (v.extractLsb hi lo).toNat = v.toNat / 2 ^ lo % 2 ^ (hi - lo + 1) := by
  rw [BitVec.extractLsb_toNat, Nat.shiftRight_eq_div_pow]

/-- A test on a slice as a test on a number. -/
theorem slice_eq_iff (v : BitVec n) (hi lo : Nat) (u : BitVec (hi - lo + 1)) :
    v.extractLsb hi lo = u ↔ v.toNat / 2 ^ lo % 2 ^ (hi - lo + 1) = u.toNat := by
  rw [← BitVec.toNat_inj, toNat_slice]

/-- One test of a chain of tests: whatever holds of both branches holds of the choice. Applied again and
again it takes the decoder's chain apart without a split of the whole goal. -/
theorem ite_elim {α : Sort*} {P : α → Prop} {c : Prop} [Decidable c] {x y : α} (hx : c → P x)
    (hy : ¬c → P y) : P (if c then x else y) := by
  split
  · next h => exact hx h
  · next h => exact hy h

/-- The bit a Bool test reads, as a number. -/
theorem getLsbD_eq_true (v : BitVec n) (i : Nat) : v.getLsbD i = true ↔ v.toNat / 2 ^ i % 2 = 1 := by
  rw [BitVec.getLsbD, Nat.testBit_eq_decide_div_mod_eq, decide_eq_true_iff]

/-- A prefix and any operand agree with the prefix under the prefix's mask (R87). -/
theorem append_and_mask (x : BitVec m) (y : BitVec n) :
    (x ++ y) &&& (BitVec.allOnes m ++ 0#n) = x ++ 0#n := by
  ext i hi
  simp only [BitVec.getElem_and, BitVec.getElem_append, BitVec.getElem_allOnes, BitVec.getElem_zero]
  split <;> simp

end Sys2Proof.Words
end

