-- ==== Sys2Proof/Laws/PerInstr.lean ====
section
/-!
SUPPORT. Per-instruction statements: the word the encoder gives an operation fits the row of the opcode
table that has the operation's mnemonic (spec/30_encoding.md R87 to R89, R91).
-/

namespace Sys2Proof.Laws.EncodingFitsRow

/-- The encoded word fits the row of the operation's mnemonic, for all byte codes. -/
def Statement (i : Instr) : Prop :=
  ∀ p : Params, match encode p i with
    | .bus w => ∃ r ∈ busTable, r.mnemonic = i.mnemonic ∧ r.fits w = true
    | .rx w => ∃ r ∈ rxTable p, r.mnemonic = i.mnemonic ∧ r.fits w = true
    | .seq w => ∃ r ∈ seqTable, r.mnemonic = i.mnemonic ∧ r.fits w = true

/-- A prefix and any operand fit the row of that prefix (R87). -/
theorem fits_of_prefix {m n : Nat} (x : BitVec m) (y : BitVec n) (w pattern mask : BitVec (m + n))
    (hw : w = x ++ y) (hp : pattern = x ++ 0#n) (hm : mask = BitVec.allOnes m ++ 0#n) :
    (w &&& mask == pattern) = true := by
  rw [hw, hp, hm, Words.append_and_mask, beq_self_eq_true]

theorem rdRam1 (i : BitVec 12) : Statement (.rdRam1 i) := fun _ =>
  ⟨⟨"RD_RAM1", 0x10000#17, 0x1F000#17⟩, by simp [busTable, busBankRows], rfl, fits_of_prefix 0x10#5 i _ _ _ rfl rfl rfl⟩

theorem wrRam1 (i : BitVec 12) : Statement (.wrRam1 i) := fun _ =>
  ⟨⟨"WR_RAM1", 0x00000#17, 0x1F000#17⟩, by simp [busTable, busBankRows], rfl, fits_of_prefix 0x0#5 i _ _ _ rfl rfl rfl⟩

theorem rdRam2 (i : BitVec 12) : Statement (.rdRam2 i) := fun _ =>
  ⟨⟨"RD_RAM2", 0x1E000#17, 0x1F000#17⟩, by simp [busTable, busBankRows], rfl, fits_of_prefix 0x1E#5 i _ _ _ rfl rfl rfl⟩

theorem wrRam2 (i : BitVec 12) : Statement (.wrRam2 i) := fun _ =>
  ⟨⟨"WR_RAM2", 0x0E000#17, 0x1F000#17⟩, by simp [busTable, busBankRows], rfl, fits_of_prefix 0xE#5 i _ _ _ rfl rfl rfl⟩

theorem rdRom (i : BitVec 8) : Statement (.rdRom i) := fun _ =>
  ⟨⟨"RD_ROM", 0x1FF00#17, 0x1FF00#17⟩, by simp [busTable, busBankRows], rfl, fits_of_prefix 0x1FF#9 i _ _ _ rfl rfl rfl⟩

theorem wrRom (i : BitVec 8) : Statement (.wrRom i) := fun _ =>
  ⟨⟨"WR_ROM", 0x0FF00#17, 0x1FF00#17⟩, by simp [busTable, busBankRows], rfl, fits_of_prefix 0xFF#9 i _ _ _ rfl rfl rfl⟩

theorem rdKbdData : Statement (.rdKbdData) := fun _ =>
  ⟨⟨"RD_KBD_DATA", 0x1D010#17, 0x1FFFF#17⟩, by simp [busTable, busRegisterRows], rfl, rfl⟩

theorem wrKbdData : Statement (.wrKbdData) := fun _ =>
  ⟨⟨"WR_KBD_DATA", 0x0D010#17, 0x1FFFF#17⟩, by simp [busTable, busRegisterRows], rfl, rfl⟩

theorem rdKbdStatus : Statement (.rdKbdStatus) := fun _ =>
  ⟨⟨"RD_KBD_STATUS", 0x1D011#17, 0x1FFFF#17⟩, by simp [busTable, busRegisterRows], rfl, rfl⟩

theorem wrKbdStatus : Statement (.wrKbdStatus) := fun _ =>
  ⟨⟨"WR_KBD_STATUS", 0x0D011#17, 0x1FFFF#17⟩, by simp [busTable, busRegisterRows], rfl, rfl⟩

theorem rdDspData : Statement (.rdDspData) := fun _ =>
  ⟨⟨"RD_DSP_DATA", 0x1D012#17, 0x1FFFF#17⟩, by simp [busTable, busRegisterRows], rfl, rfl⟩

theorem wrDspData : Statement (.wrDspData) := fun _ =>
  ⟨⟨"WR_DSP_DATA", 0x0D012#17, 0x1FFFF#17⟩, by simp [busTable, busRegisterRows], rfl, rfl⟩

theorem rdDspStatus : Statement (.rdDspStatus) := fun _ =>
  ⟨⟨"RD_DSP_STATUS", 0x1D013#17, 0x1FFFF#17⟩, by simp [busTable, busRegisterRows], rfl, rfl⟩

theorem wrDspStatus : Statement (.wrDspStatus) := fun _ =>
  ⟨⟨"WR_DSP_STATUS", 0x0D013#17, 0x1FFFF#17⟩, by simp [busTable, busRegisterRows], rfl, rfl⟩

theorem rdPiaUnusedD000 (x : BitVec 4) : Statement (.rdPiaUnusedD000 x) := fun _ =>
  ⟨⟨"RD_PIA_UNUSED_D000", 0x1D000#17, 0x1FFF0#17⟩, by simp [busTable, busUnusedRows], rfl, fits_of_prefix 0x1D00#13 x _ _ _ rfl rfl rfl⟩

theorem wrPiaUnusedD000 (x : BitVec 4) : Statement (.wrPiaUnusedD000 x) := fun _ =>
  ⟨⟨"WR_PIA_UNUSED_D000", 0x0D000#17, 0x1FFF0#17⟩, by simp [busTable, busUnusedRows], rfl, fits_of_prefix 0xD00#13 x _ _ _ rfl rfl rfl⟩

theorem rdPiaUnusedD014 (x : BitVec 2) : Statement (.rdPiaUnusedD014 x) := fun _ =>
  ⟨⟨"RD_PIA_UNUSED_D014", 0x1D014#17, 0x1FFFC#17⟩, by simp [busTable, busUnusedRows], rfl, fits_of_prefix 0x7405#15 x _ _ _ rfl rfl rfl⟩

theorem wrPiaUnusedD014 (x : BitVec 2) : Statement (.wrPiaUnusedD014 x) := fun _ =>
  ⟨⟨"WR_PIA_UNUSED_D014", 0x0D014#17, 0x1FFFC#17⟩, by simp [busTable, busUnusedRows], rfl, fits_of_prefix 0x3405#15 x _ _ _ rfl rfl rfl⟩

theorem rdPiaUnusedD018 (x : BitVec 3) : Statement (.rdPiaUnusedD018 x) := fun _ =>
  ⟨⟨"RD_PIA_UNUSED_D018", 0x1D018#17, 0x1FFF8#17⟩, by simp [busTable, busUnusedRows], rfl, fits_of_prefix 0x3A03#14 x _ _ _ rfl rfl rfl⟩

theorem wrPiaUnusedD018 (x : BitVec 3) : Statement (.wrPiaUnusedD018 x) := fun _ =>
  ⟨⟨"WR_PIA_UNUSED_D018", 0x0D018#17, 0x1FFF8#17⟩, by simp [busTable, busUnusedRows], rfl, fits_of_prefix 0x1A03#14 x _ _ _ rfl rfl rfl⟩

theorem rdPiaUnusedD020 (x : BitVec 5) : Statement (.rdPiaUnusedD020 x) := fun _ =>
  ⟨⟨"RD_PIA_UNUSED_D020", 0x1D020#17, 0x1FFE0#17⟩, by simp [busTable, busUnusedRows], rfl, fits_of_prefix 0xE81#12 x _ _ _ rfl rfl rfl⟩

theorem wrPiaUnusedD020 (x : BitVec 5) : Statement (.wrPiaUnusedD020 x) := fun _ =>
  ⟨⟨"WR_PIA_UNUSED_D020", 0x0D020#17, 0x1FFE0#17⟩, by simp [busTable, busUnusedRows], rfl, fits_of_prefix 0x681#12 x _ _ _ rfl rfl rfl⟩

theorem rdPiaUnusedD040 (x : BitVec 6) : Statement (.rdPiaUnusedD040 x) := fun _ =>
  ⟨⟨"RD_PIA_UNUSED_D040", 0x1D040#17, 0x1FFC0#17⟩, by simp [busTable, busUnusedRows], rfl, fits_of_prefix 0x741#11 x _ _ _ rfl rfl rfl⟩

theorem wrPiaUnusedD040 (x : BitVec 6) : Statement (.wrPiaUnusedD040 x) := fun _ =>
  ⟨⟨"WR_PIA_UNUSED_D040", 0x0D040#17, 0x1FFC0#17⟩, by simp [busTable, busUnusedRows], rfl, fits_of_prefix 0x341#11 x _ _ _ rfl rfl rfl⟩

theorem rdPiaUnusedD080 (x : BitVec 7) : Statement (.rdPiaUnusedD080 x) := fun _ =>
  ⟨⟨"RD_PIA_UNUSED_D080", 0x1D080#17, 0x1FF80#17⟩, by simp [busTable, busUnusedRows], rfl, fits_of_prefix 0x3A1#10 x _ _ _ rfl rfl rfl⟩

theorem wrPiaUnusedD080 (x : BitVec 7) : Statement (.wrPiaUnusedD080 x) := fun _ =>
  ⟨⟨"WR_PIA_UNUSED_D080", 0x0D080#17, 0x1FF80#17⟩, by simp [busTable, busUnusedRows], rfl, fits_of_prefix 0x1A1#10 x _ _ _ rfl rfl rfl⟩

theorem rdPiaUnusedD100 (x : BitVec 8) : Statement (.rdPiaUnusedD100 x) := fun _ =>
  ⟨⟨"RD_PIA_UNUSED_D100", 0x1D100#17, 0x1FF00#17⟩, by simp [busTable, busUnusedRows], rfl, fits_of_prefix 0x1D1#9 x _ _ _ rfl rfl rfl⟩

theorem wrPiaUnusedD100 (x : BitVec 8) : Statement (.wrPiaUnusedD100 x) := fun _ =>
  ⟨⟨"WR_PIA_UNUSED_D100", 0x0D100#17, 0x1FF00#17⟩, by simp [busTable, busUnusedRows], rfl, fits_of_prefix 0xD1#9 x _ _ _ rfl rfl rfl⟩

theorem rdPiaUnusedD200 (x : BitVec 9) : Statement (.rdPiaUnusedD200 x) := fun _ =>
  ⟨⟨"RD_PIA_UNUSED_D200", 0x1D200#17, 0x1FE00#17⟩, by simp [busTable, busUnusedRows], rfl, fits_of_prefix 0xE9#8 x _ _ _ rfl rfl rfl⟩

theorem wrPiaUnusedD200 (x : BitVec 9) : Statement (.wrPiaUnusedD200 x) := fun _ =>
  ⟨⟨"WR_PIA_UNUSED_D200", 0x0D200#17, 0x1FE00#17⟩, by simp [busTable, busUnusedRows], rfl, fits_of_prefix 0x69#8 x _ _ _ rfl rfl rfl⟩

theorem rdPiaUnusedD400 (x : BitVec 10) : Statement (.rdPiaUnusedD400 x) := fun _ =>
  ⟨⟨"RD_PIA_UNUSED_D400", 0x1D400#17, 0x1FC00#17⟩, by simp [busTable, busUnusedRows], rfl, fits_of_prefix 0x75#7 x _ _ _ rfl rfl rfl⟩

theorem wrPiaUnusedD400 (x : BitVec 10) : Statement (.wrPiaUnusedD400 x) := fun _ =>
  ⟨⟨"WR_PIA_UNUSED_D400", 0x0D400#17, 0x1FC00#17⟩, by simp [busTable, busUnusedRows], rfl, fits_of_prefix 0x35#7 x _ _ _ rfl rfl rfl⟩

theorem rdPiaUnusedD800 (x : BitVec 11) : Statement (.rdPiaUnusedD800 x) := fun _ =>
  ⟨⟨"RD_PIA_UNUSED_D800", 0x1D800#17, 0x1F800#17⟩, by simp [busTable, busUnusedRows], rfl, fits_of_prefix 0x3B#6 x _ _ _ rfl rfl rfl⟩

theorem wrPiaUnusedD800 (x : BitVec 11) : Statement (.wrPiaUnusedD800 x) := fun _ =>
  ⟨⟨"WR_PIA_UNUSED_D800", 0x0D800#17, 0x1F800#17⟩, by simp [busTable, busUnusedRows], rfl, fits_of_prefix 0x1B#6 x _ _ _ rfl rfl rfl⟩

theorem rdUnmapped1000 (x : BitVec 12) : Statement (.rdUnmapped1000 x) := fun _ =>
  ⟨⟨"RD_UNMAPPED_1000", 0x11000#17, 0x1F000#17⟩, by simp [busTable, busUnmappedRows], rfl, fits_of_prefix 0x11#5 x _ _ _ rfl rfl rfl⟩

theorem wrUnmapped1000 (x : BitVec 12) : Statement (.wrUnmapped1000 x) := fun _ =>
  ⟨⟨"WR_UNMAPPED_1000", 0x01000#17, 0x1F000#17⟩, by simp [busTable, busUnmappedRows], rfl, fits_of_prefix 0x1#5 x _ _ _ rfl rfl rfl⟩

theorem rdUnmapped2000 (x : BitVec 13) : Statement (.rdUnmapped2000 x) := fun _ =>
  ⟨⟨"RD_UNMAPPED_2000", 0x12000#17, 0x1E000#17⟩, by simp [busTable, busUnmappedRows], rfl, fits_of_prefix 0x9#4 x _ _ _ rfl rfl rfl⟩

theorem wrUnmapped2000 (x : BitVec 13) : Statement (.wrUnmapped2000 x) := fun _ =>
  ⟨⟨"WR_UNMAPPED_2000", 0x02000#17, 0x1E000#17⟩, by simp [busTable, busUnmappedRows], rfl, fits_of_prefix 0x1#4 x _ _ _ rfl rfl rfl⟩

theorem rdUnmapped4000 (x : BitVec 14) : Statement (.rdUnmapped4000 x) := fun _ =>
  ⟨⟨"RD_UNMAPPED_4000", 0x14000#17, 0x1C000#17⟩, by simp [busTable, busUnmappedRows], rfl, fits_of_prefix 0x5#3 x _ _ _ rfl rfl rfl⟩

theorem wrUnmapped4000 (x : BitVec 14) : Statement (.wrUnmapped4000 x) := fun _ =>
  ⟨⟨"WR_UNMAPPED_4000", 0x04000#17, 0x1C000#17⟩, by simp [busTable, busUnmappedRows], rfl, fits_of_prefix 0x1#3 x _ _ _ rfl rfl rfl⟩

theorem rdUnmapped8000 (x : BitVec 14) : Statement (.rdUnmapped8000 x) := fun _ =>
  ⟨⟨"RD_UNMAPPED_8000", 0x18000#17, 0x1C000#17⟩, by simp [busTable, busUnmappedRows], rfl, fits_of_prefix 0x6#3 x _ _ _ rfl rfl rfl⟩

theorem wrUnmapped8000 (x : BitVec 14) : Statement (.wrUnmapped8000 x) := fun _ =>
  ⟨⟨"WR_UNMAPPED_8000", 0x08000#17, 0x1C000#17⟩, by simp [busTable, busUnmappedRows], rfl, fits_of_prefix 0x2#3 x _ _ _ rfl rfl rfl⟩

theorem rdUnmappedC000 (x : BitVec 12) : Statement (.rdUnmappedC000 x) := fun _ =>
  ⟨⟨"RD_UNMAPPED_C000", 0x1C000#17, 0x1F000#17⟩, by simp [busTable, busUnmappedRows], rfl, fits_of_prefix 0x1C#5 x _ _ _ rfl rfl rfl⟩

theorem wrUnmappedC000 (x : BitVec 12) : Statement (.wrUnmappedC000 x) := fun _ =>
  ⟨⟨"WR_UNMAPPED_C000", 0x0C000#17, 0x1F000#17⟩, by simp [busTable, busUnmappedRows], rfl, fits_of_prefix 0xC#5 x _ _ _ rfl rfl rfl⟩

theorem rdUnmappedF000 (x : BitVec 11) : Statement (.rdUnmappedF000 x) := fun _ =>
  ⟨⟨"RD_UNMAPPED_F000", 0x1F000#17, 0x1F800#17⟩, by simp [busTable, busUnmappedRows], rfl, fits_of_prefix 0x3E#6 x _ _ _ rfl rfl rfl⟩

theorem wrUnmappedF000 (x : BitVec 11) : Statement (.wrUnmappedF000 x) := fun _ =>
  ⟨⟨"WR_UNMAPPED_F000", 0x0F000#17, 0x1F800#17⟩, by simp [busTable, busUnmappedRows], rfl, fits_of_prefix 0x1E#6 x _ _ _ rfl rfl rfl⟩

theorem rdUnmappedF800 (x : BitVec 10) : Statement (.rdUnmappedF800 x) := fun _ =>
  ⟨⟨"RD_UNMAPPED_F800", 0x1F800#17, 0x1FC00#17⟩, by simp [busTable, busUnmappedRows], rfl, fits_of_prefix 0x7E#7 x _ _ _ rfl rfl rfl⟩

theorem wrUnmappedF800 (x : BitVec 10) : Statement (.wrUnmappedF800 x) := fun _ =>
  ⟨⟨"WR_UNMAPPED_F800", 0x0F800#17, 0x1FC00#17⟩, by simp [busTable, busUnmappedRows], rfl, fits_of_prefix 0x3E#7 x _ _ _ rfl rfl rfl⟩

theorem rdUnmappedFC00 (x : BitVec 9) : Statement (.rdUnmappedFC00 x) := fun _ =>
  ⟨⟨"RD_UNMAPPED_FC00", 0x1FC00#17, 0x1FE00#17⟩, by simp [busTable, busUnmappedRows], rfl, fits_of_prefix 0xFE#8 x _ _ _ rfl rfl rfl⟩

theorem wrUnmappedFC00 (x : BitVec 9) : Statement (.wrUnmappedFC00 x) := fun _ =>
  ⟨⟨"WR_UNMAPPED_FC00", 0x0FC00#17, 0x1FE00#17⟩, by simp [busTable, busUnmappedRows], rfl, fits_of_prefix 0x7E#8 x _ _ _ rfl rfl rfl⟩

theorem rdUnmappedFE00 (x : BitVec 8) : Statement (.rdUnmappedFE00 x) := fun _ =>
  ⟨⟨"RD_UNMAPPED_FE00", 0x1FE00#17, 0x1FF00#17⟩, by simp [busTable, busUnmappedRows], rfl, fits_of_prefix 0x1FE#9 x _ _ _ rfl rfl rfl⟩

theorem wrUnmappedFE00 (x : BitVec 8) : Statement (.wrUnmappedFE00 x) := fun _ =>
  ⟨⟨"WR_UNMAPPED_FE00", 0x0FE00#17, 0x1FF00#17⟩, by simp [busTable, busUnmappedRows], rfl, fits_of_prefix 0xFE#9 x _ _ _ rfl rfl rfl⟩

theorem kbdNone : Statement (.kbdNone) := fun _ =>
  ⟨⟨"KBD_NONE", 0x000#9, 0x100#9⟩, by simp [rxTable], rfl, rfl⟩

theorem kbdLf : Statement .kbdLf := fun p =>
  ⟨⟨"KBD_LF", 1#1 ++ p.kbdLfByte, 0x1FF#9⟩, by simp [rxTable], rfl,
    fits_of_prefix (n := 0) (1#1 ++ p.kbdLfByte) 0#0 _ _ _ (by simp) (by simp) rfl⟩

theorem kbdDel : Statement .kbdDel := fun p =>
  ⟨⟨"KBD_DEL", 1#1 ++ p.kbdDelByte, 0x1FF#9⟩, by simp [rxTable], rfl,
    fits_of_prefix (n := 0) (1#1 ++ p.kbdDelByte) 0#0 _ _ _ (by simp) (by simp) rfl⟩

theorem kbdChar (b : BitVec 8) : Statement (.kbdChar b) := fun _ =>
  ⟨⟨"KBD_CHAR", 0x100#9, 0x100#9⟩, by simp [rxTable], rfl, fits_of_prefix 1#1 b _ _ _ rfl rfl rfl⟩

theorem p0ClkLow : Statement (.p0ClkLow) := fun _ =>
  ⟨⟨"P0_CLK_LOW", 0#3⟩, by simp [seqTable], rfl, rfl⟩

theorem p1WaitLow : Statement (.p1WaitLow) := fun _ =>
  ⟨⟨"P1_WAIT_LOW", 1#3⟩, by simp [seqTable], rfl, rfl⟩

theorem p2DirUpdate : Statement (.p2DirUpdate) := fun _ =>
  ⟨⟨"P2_DIR_UPDATE", 2#3⟩, by simp [seqTable], rfl, rfl⟩

theorem p3ClkHigh : Statement (.p3ClkHigh) := fun _ =>
  ⟨⟨"P3_CLK_HIGH", 3#3⟩, by simp [seqTable], rfl, rfl⟩

theorem p4WaitHigh : Statement (.p4WaitHigh) := fun _ =>
  ⟨⟨"P4_WAIT_HIGH", 4#3⟩, by simp [seqTable], rfl, rfl⟩

theorem p5AddrSample : Statement (.p5AddrSample) := fun _ =>
  ⟨⟨"P5_ADDR_SAMPLE", 5#3⟩, by simp [seqTable], rfl, rfl⟩

theorem p6Dispatch : Statement (.p6Dispatch) := fun _ =>
  ⟨⟨"P6_DISPATCH", 6#3⟩, by simp [seqTable], rfl, rfl⟩

theorem p7KbdPoll : Statement (.p7KbdPoll) := fun _ =>
  ⟨⟨"P7_KBD_POLL", 7#3⟩, by simp [seqTable], rfl, rfl⟩

end Sys2Proof.Laws.EncodingFitsRow
end

