-- ==== Sys2Proof/Laws/Step.lean ====
section
/-!
SUPPORT. What one step can do, one case for each phase; and that a placed word is what the next step runs.
-/

namespace Sys2Proof.Machine

/-- The inversion of step: the phase it ran and the state it left (R101). -/
theorem step_cases {s t : State} (h : step s = .next t) :
    (s.phase = 0#3 ∧ t = ((s.setDelay (sampleHalfPeriod s)).setClk .low).setPhase 1#3) ∨
    (s.phase = 1#3 ∧ t = s.setPhase 2#3) ∨
    (s.phase = 2#3 ∧ t = (dirUpdate (sampleRw s) s).setPhase 3#3) ∨
    (s.phase = 3#3 ∧ t = (s.setClk .high).setPhase 4#3) ∨
    (s.phase = 4#3 ∧ t = s.setPhase 5#3) ∨
    (s.phase = 5#3 ∧ t = (s.setAddr (sampleAddr s)).setPhase 6#3) ∨
    (s.phase = 6#3 ∧ t = (dispatch (sampleData s) s).setPhase 7#3) ∨
    (s.phase = 7#3 ∧ t = ((poll s).setPhase 0#3).nextCycle) := by
  have hp : s.phase = 0#3 ∨ s.phase = 1#3 ∨ s.phase = 2#3 ∨ s.phase = 3#3 ∨ s.phase = 4#3 ∨
      s.phase = 5#3 ∨ s.phase = 6#3 ∨ s.phase = 7#3 := by
    generalize s.phase = n
    revert n
    decide
  rw [step] at h
  rcases hp with hp | hp | hp | hp | hp | hp | hp | hp <;> rw [hp] at h <;>
    simp only [hp, true_and, decodeSeq] at h ⊢ <;> cases h <;> simp [wait, hp]

/-- A placed bus word is the word the gate dispatches. -/
theorem busWord_placeBus (w : BitVec 17) (s : State) :
    busWord (placeBus w s) = w ∧ changed (placeBus w s) = true ∧ (placeBus w s).phase = 6#3 := by
  refine ⟨?_, by simp [changed, placeBus], rfl⟩
  apply BitVec.eq_of_toNat_eq
  have hb : (dirOfBit (w.getLsbD 16)).bit.toNat = w.toNat / 2 ^ 16 % 2 := by
    rcases h : w.getLsbD 16 with _ | _
    · have := mt (Words.getLsbD_eq_true w 16).mpr (by rw [h]; exact Bool.false_ne_true)
      simp only [dirOfBit, Dir.bit]
      simp
      omega
    · have := (Words.getLsbD_eq_true w 16).mp h
      simp only [dirOfBit, Dir.bit]
      simp
      omega
  have := w.isLt
  simp only [busWord, placeBus, Words.toNat_append_add, Words.toNat_slice, hb]
  omega

/-- A placed receive word is the word of the next poll, but for the bits `KBD_NONE` ignores. -/
theorem rxWord_placeRx (w : BitVec 9) (s : State) :
    rxWord (arrive (placeRx w s)) = (if w.getLsbD 8 then w else 0#9) ∧
      (placeRx w s).phase = 7#3 := by
  rcases h : w.getLsbD 8 with _ | _
  · rw [placeRx, h]
    exact ⟨rfl, rfl⟩
  · rw [placeRx, h]
    refine ⟨?_, rfl⟩
    have h8 := (Words.getLsbD_eq_true w 8).mp h
    have := w.isLt
    apply BitVec.eq_of_toNat_eq
    change ((1#1 : BitVec 1) ++ w.extractLsb 7 0).toNat = w.toNat
    simp only [Words.toNat_append_add, Words.toNat_slice, BitVec.toNat_ofNat]
    omega

end Sys2Proof.Machine
end

