-- ==== Sys2Proof/Tests/Slice0.lean ====
section
/-!
SUPPORT. Tests: each expected result is taken from the spec (the encodings of spec/opcode_table.json, the
vectors of spec/95_test_vectors.md, the rule named), by hand and not from the model; and for every
obligation with hypotheses a witness that meets them.
-/

namespace Sys2Proof.Machine.Tests

/-! Well-formed and ill-formed terms (R194, R195, D11). -/

/-- Byte codes with the delete byte equal to the line-feed byte, and the two display codes equal. -/
def equalCodes : Params :=
  { Params.default with dspBsCode := 0x0D#7, kbdDelByte := 0x0A#8 }

/-- The second parameter set Q of 95_test_vectors.md section 2.6. -/
def codesQ : Params := { Params.default with dspBsCode := 0x08#7, termBs := 0x7F#8 }

theorem test_wf_char_rejects_line_feed : (Instr.kbdChar 0x0A#8).wf Params.default = false := by decide

theorem test_wf_char_rejects_delete : (Instr.kbdChar 0x7F#8).wf Params.default = false := by decide

theorem test_wf_delete_rejects_equal_codes : Instr.kbdDel.wf equalCodes = false := by decide

theorem test_wf_accepts : (Instr.kbdChar 0x8A#8).wf Params.default = true ∧
    Instr.kbdDel.wf Params.default = true ∧ (Instr.wrRom 0xFF#8).wf Params.default = true := by decide

theorem test_params_wf : Params.default.wf ∧ codesQ.wf ∧ ¬ equalCodes.wf := by decide

theorem test_memory_wf_rejects : ¬ Memory.wf 256 [(5, 1#8), (4, 2#8)] ∧ ¬ Memory.wf 256 [(4, 0#8)] ∧
    ¬ Memory.wf 256 [(256, 1#8)] ∧ Memory.wf 256 [(0, 1#8), (255, 2#8)] := by decide

/-! Decoding: for every row the word is the row's "encoding" column with its open bits filled in. -/

theorem test_decode_banks :
    decodeTableWord 24 0b10000110111011101 = some (.rdRam1 0b110111011101#12) ∧
    decodeTableWord 24 0b00000110111011101 = some (.wrRam1 0b110111011101#12) ∧
    decodeTableWord 24 0b11110110111011101 = some (.rdRam2 0b110111011101#12) ∧
    decodeTableWord 24 0b01110110111011101 = some (.wrRam2 0b110111011101#12) ∧
    decodeTableWord 24 0b11111111111011101 = some (.rdRom 0b11011101#8) ∧
    decodeTableWord 24 0b01111111111011101 = some (.wrRom 0b11011101#8) := by decide

theorem test_decode_registers :
    decodeTableWord 24 0b11101000000010000 = some .rdKbdData ∧
    decodeTableWord 24 0b01101000000010000 = some .wrKbdData ∧
    decodeTableWord 24 0b11101000000010001 = some .rdKbdStatus ∧
    decodeTableWord 24 0b01101000000010001 = some .wrKbdStatus ∧
    decodeTableWord 24 0b11101000000010010 = some .rdDspData ∧
    decodeTableWord 24 0b01101000000010010 = some .wrDspData ∧
    decodeTableWord 24 0b11101000000010011 = some .rdDspStatus ∧
    decodeTableWord 24 0b01101000000010011 = some .wrDspStatus := by decide

theorem test_decode_unused_a :
    decodeTableWord 24 0b11101000000001101 = some (.rdPiaUnusedD000 0b1101#4) ∧
    decodeTableWord 24 0b01101000000001101 = some (.wrPiaUnusedD000 0b1101#4) ∧
    decodeTableWord 24 0b11101000000010111 = some (.rdPiaUnusedD014 0b11#2) ∧
    decodeTableWord 24 0b01101000000010111 = some (.wrPiaUnusedD014 0b11#2) ∧
    decodeTableWord 24 0b11101000000011110 = some (.rdPiaUnusedD018 0b110#3) ∧
    decodeTableWord 24 0b01101000000011110 = some (.wrPiaUnusedD018 0b110#3) ∧
    decodeTableWord 24 0b11101000000111011 = some (.rdPiaUnusedD020 0b11011#5) ∧
    decodeTableWord 24 0b01101000000111011 = some (.wrPiaUnusedD020 0b11011#5) ∧
    decodeTableWord 24 0b11101000001110111 = some (.rdPiaUnusedD040 0b110111#6) ∧
    decodeTableWord 24 0b01101000001110111 = some (.wrPiaUnusedD040 0b110111#6) := by decide

theorem test_decode_unused_b :
    decodeTableWord 24 0b11101000011101110 = some (.rdPiaUnusedD080 0b1101110#7) ∧
    decodeTableWord 24 0b01101000011101110 = some (.wrPiaUnusedD080 0b1101110#7) ∧
    decodeTableWord 24 0b11101000111011101 = some (.rdPiaUnusedD100 0b11011101#8) ∧
    decodeTableWord 24 0b01101000111011101 = some (.wrPiaUnusedD100 0b11011101#8) ∧
    decodeTableWord 24 0b11101001110111011 = some (.rdPiaUnusedD200 0b110111011#9) ∧
    decodeTableWord 24 0b01101001110111011 = some (.wrPiaUnusedD200 0b110111011#9) ∧
    decodeTableWord 24 0b11101011101110111 = some (.rdPiaUnusedD400 0b1101110111#10) ∧
    decodeTableWord 24 0b01101011101110111 = some (.wrPiaUnusedD400 0b1101110111#10) ∧
    decodeTableWord 24 0b11101111011101110 = some (.rdPiaUnusedD800 0b11011101110#11) ∧
    decodeTableWord 24 0b01101111011101110 = some (.wrPiaUnusedD800 0b11011101110#11) := by decide

theorem test_decode_unmapped_a :
    decodeTableWord 24 0b10001110111011101 = some (.rdUnmapped1000 0b110111011101#12) ∧
    decodeTableWord 24 0b00001110111011101 = some (.wrUnmapped1000 0b110111011101#12) ∧
    decodeTableWord 24 0b10011101110111011 = some (.rdUnmapped2000 0b1101110111011#13) ∧
    decodeTableWord 24 0b00011101110111011 = some (.wrUnmapped2000 0b1101110111011#13) ∧
    decodeTableWord 24 0b10111011101110111 = some (.rdUnmapped4000 0b11011101110111#14) ∧
    decodeTableWord 24 0b00111011101110111 = some (.wrUnmapped4000 0b11011101110111#14) ∧
    decodeTableWord 24 0b11011011101110111 = some (.rdUnmapped8000 0b11011101110111#14) ∧
    decodeTableWord 24 0b01011011101110111 = some (.wrUnmapped8000 0b11011101110111#14) ∧
    decodeTableWord 24 0b11100110111011101 = some (.rdUnmappedC000 0b110111011101#12) ∧
    decodeTableWord 24 0b01100110111011101 = some (.wrUnmappedC000 0b110111011101#12) := by decide

theorem test_decode_unmapped_b :
    decodeTableWord 24 0b11111011011101110 = some (.rdUnmappedF000 0b11011101110#11) ∧
    decodeTableWord 24 0b01111011011101110 = some (.wrUnmappedF000 0b11011101110#11) ∧
    decodeTableWord 24 0b11111101101110111 = some (.rdUnmappedF800 0b1101110111#10) ∧
    decodeTableWord 24 0b01111101101110111 = some (.wrUnmappedF800 0b1101110111#10) ∧
    decodeTableWord 24 0b11111110110111011 = some (.rdUnmappedFC00 0b110111011#9) ∧
    decodeTableWord 24 0b01111110110111011 = some (.wrUnmappedFC00 0b110111011#9) ∧
    decodeTableWord 24 0b11111111011011101 = some (.rdUnmappedFE00 0b11011101#8) ∧
    decodeTableWord 24 0b01111111011011101 = some (.wrUnmappedFE00 0b11011101#8) := by decide

theorem test_decode_receive :
    decodeTableWord 16 0b011011101 = some .kbdNone ∧
    decodeTableWord 16 0b100001010 = some .kbdLf ∧
    decodeTableWord 16 0b101111111 = some .kbdDel ∧
    decodeTableWord 16 0b111011101 = some (.kbdChar 0b11011101#8) := by decide

theorem test_decode_phases :
    decodeTableWord 8 0b000 = some .p0ClkLow ∧
    decodeTableWord 8 0b001 = some .p1WaitLow ∧
    decodeTableWord 8 0b010 = some .p2DirUpdate ∧
    decodeTableWord 8 0b011 = some .p3ClkHigh ∧
    decodeTableWord 8 0b100 = some .p4WaitHigh ∧
    decodeTableWord 8 0b101 = some .p5AddrSample ∧
    decodeTableWord 8 0b110 = some .p6Dispatch ∧
    decodeTableWord 8 0b111 = some .p7KbdPoll := by decide

theorem test_decode_refuses_bits_above_format : decodeTableWord 24 0x20000 = none ∧
    decodeTableWord 16 0x200 = none ∧ decodeTableWord 8 0x8 = none ∧ decodeTableWord 0 0 = none ∧
    decodeTableWord 32 0 = none := by decide

/-- 0x8A is not the line-feed byte: the comparison is on all eight bits (D13); with equal codes the
line-feed row comes first (R88). -/
theorem test_decode_receive_priority : decodeRx Params.default 0x18A#9 = .kbdChar 0x8A#8 ∧
    decodeRx equalCodes 0x10A#9 = .kbdLf := by decide

/-! One operation at a time. -/

/-- The predicate holds of the next state an outcome answers. -/
def answers (r : Result) (p : State → Bool) : Bool :=
  match r with
  | .next t => p t
  | .fault _ => false
  | .refused _ => false

/-- The images of vector C1, and one byte in each RAM bank. -/
def images : Images :=
  { rom := [(0, 0x03#8), (0xFC, 0xE7#8), (0xFF, 0xFC#8)]
    ram1 := [(0xFFF, 0x77#8)]
    ram2 := [(0, 0x4C#8)] }

/-- One script line: the half-period 5, the bus cycle, and the key. -/
def line (rw : Level) (a : Addr) (d : Byte) (rx : List Byte) : Stimulus := ⟨5, rw, a, d, rx⟩

/-- A state after reset with the images above and one script line. -/
def start (l : Stimulus) : State := { State.resetWith Params.default images with inputs := [l] }

/-- A state at phase P6 of a first cycle, about to dispatch. -/
def atDispatch (d : Dir) (a : Addr) (v : Byte) : State :=
  { start (line .low a v []) with phase := 6#3, dir := d, pinMode := PinMode.ofDir d, addr := a }

/-- A state at phase P7 with the registers of a row of section 2.7 and its key. -/
def atPoll (p : Params) (kd ks : Byte) (rx : List Byte) : State :=
  { start (line .high 0x0000#16 0x00#8 rx) with
    phase := 7#3, kbdData := kd, kbdStatus := ks, params := p, prevValid := true }

/-- C1, row 0FFF. -/
theorem test_wr_ram1 :
    answers (step (atDispatch .cpuWrites 0x0FFF#16 0x5A#8)) (fun t => t.ram1 == [(0xFFF, 0x5A#8)] && t.ram2 == images.ram2) = true := by decide

/-- B4: a stored 0x00 is no listed cell. -/
theorem test_wr_ram1_zero :
    answers (step (atDispatch .cpuWrites 0x0FFF#16 0x00#8)) (fun t => t.ram1 == []) = true := by decide

/-- D3. -/
theorem test_rd_ram1 :
    answers (step (atDispatch .cpuReads 0x0FFF#16 0x00#8)) (fun t => t.dout == 0x77#8) = true := by decide

/-- D2: the banks are separate. -/
theorem test_wr_ram2 :
    answers (step (atDispatch .cpuWrites 0xE123#16 0x4C#8)) (fun t => t.ram2 == [(0, 0x4C#8), (0x123, 0x4C#8)] && t.ram1 == images.ram1) = true := by decide

/-- D3. -/
theorem test_rd_ram2 :
    answers (step (atDispatch .cpuReads 0xE000#16 0x00#8)) (fun t => t.dout == 0x4C#8) = true := by decide

/-- S2. -/
theorem test_wr_rom :
    answers (step (atDispatch .cpuWrites 0xFF00#16 0x99#8)) (fun t => t.rom == images.rom && t.ram1 == images.ram1 && t.ram2 == images.ram2) = true := by decide

/-- C1, row FFFC. -/
theorem test_rd_rom :
    answers (step (atDispatch .cpuReads 0xFFFC#16 0x00#8)) (fun t => t.dout == 0xE7#8) = true := by decide

/-- S3: not wrapped to `RAM1[0]`. -/
theorem test_wr_unmapped :
    answers (step (atDispatch .cpuWrites 0x1000#16 0x55#8)) (fun t => t.ram1 == images.ram1 && t.ram2 == images.ram2) = true := by decide

/-- D6: the zero is driven. -/
theorem test_rd_unmapped :
    answers (step { atDispatch .cpuReads 0x1000#16 0x00#8 with dout := 0x12#8 }) (fun t => t.dout == 0x00#8) = true := by decide

/-- C1, row FEFF: no mirror of the ROM (D17). -/
theorem test_rd_unmapped_below_rom :
    answers (step { atDispatch .cpuReads 0xFEFF#16 0x00#8 with dout := 0x12#8 }) (fun t => t.dout == 0x00#8) = true := by decide

/-- Section 2.5, line 20. -/
theorem test_rd_pia_unused :
    answers (step { atDispatch .cpuReads 0xD014#16 0x00#8 with dout := 0x12#8, kbdStatus := 0x27#8 }) (fun t => t.dout == 0x00#8 && t.kbdStatus == 0x27#8) = true := by decide

/-- Section 2.5, line 19. -/
theorem test_wr_pia_unused :
    answers (step (atDispatch .cpuWrites 0xD014#16 0xFF#8)) (fun t => t.dspData == 0x00#8 && t.tx == []) = true := by decide

/-- Section 2.5, line 11: verbatim, the flag untouched. -/
theorem test_wr_kbd_data :
    answers (step (atDispatch .cpuWrites 0xD010#16 0xC1#8)) (fun t => t.kbdData == 0xC1#8 && t.kbdStatus == 0x00#8) = true := by decide

/-- Section 2.5, line 16: the flag is consumed. -/
theorem test_rd_kbd_data :
    answers (step { atDispatch .cpuReads 0xD010#16 0x00#8 with kbdData := 0xC1#8, kbdStatus := 0xA7#8 }) (fun t => t.dout == 0xC1#8 && t.kbdData == 0xC1#8 && t.kbdStatus == 0x27#8) = true := by decide

/-- Section 2.5, line 14. -/
theorem test_wr_kbd_status :
    answers (step (atDispatch .cpuWrites 0xD011#16 0x80#8)) (fun t => t.kbdStatus == 0x80#8 && t.kbdData == 0x00#8) = true := by decide

/-- Section 2.5, line 15. -/
theorem test_rd_kbd_status :
    answers (step { atDispatch .cpuReads 0xD011#16 0x00#8 with kbdStatus := 0x80#8 }) (fun t => t.dout == 0x80#8 && t.kbdStatus == 0x80#8) = true := by decide

/-- Section 2.5, line 1: bit 7 is neither sent nor kept. -/
theorem test_wr_dsp_data :
    answers (step (atDispatch .cpuWrites 0xD012#16 0xC1#8)) (fun t => t.dspData == 0x41#8 && t.tx == [0x41#8]) = true := by decide

/-- Section 2.5, line 3. -/
theorem test_wr_dsp_data_cr :
    answers (step (atDispatch .cpuWrites 0xD012#16 0x8D#8)) (fun t => t.dspData == 0x0D#8 && t.tx == [0x0D#8, 0x0A#8]) = true := by decide

/-- S4. -/
theorem test_rd_dsp_data :
    answers (step { atDispatch .cpuReads 0xD012#16 0x00#8 with dspData := 0x41#8 }) (fun t => t.dout == 0x41#8) = true := by decide

/-- P2, line 20. -/
theorem test_wr_dsp_status :
    answers (step (atDispatch .cpuWrites 0xD013#16 0xA7#8)) (fun t => t.dspStatus == 0xA7#8 && t.tx == []) = true := by decide

/-- P2, line 21. -/
theorem test_rd_dsp_status :
    answers (step { atDispatch .cpuReads 0xD013#16 0x00#8 with dspStatus := 0xA7#8 }) (fun t => t.dout == 0xA7#8) = true := by decide

/-- Section 2.6, and D10 for equal codes. -/
theorem test_dsp_bytes :
    dspBytes Params.default 0xDF#8 = [0x08#8] ∧ dspBytes codesQ 0xDF#8 = [0x5F#8] ∧
    dspBytes codesQ 0x88#8 = [0x7F#8] ∧ dspBytes Params.default 0x88#8 = [0x08#8] ∧
    dspBytes Params.default 0xFF#8 = [0x7F#8] ∧ dspBytes equalCodes 0x0D#8 = [0x0D#8, 0x0A#8] := by decide

/-- Section 2.7, row 1. -/
theorem test_kbd_none :
    answers (step (atPoll Params.default 0x00#8 0x00#8 [])) (fun t => t.kbdData == 0x00#8 && t.kbdStatus == 0x00#8 && t.phase == 0#3) = true := by decide

/-- Section 2.7, row 4. -/
theorem test_kbd_lf :
    answers (step (atPoll Params.default 0xF8#8 0x80#8 [0x0A#8, 0x41#8])) (fun t => t.kbdData == 0xF8#8 && t.kbdStatus == 0x80#8 && t.rx == [0x41#8]) = true := by decide

/-- Section 2.7, row 6. -/
theorem test_kbd_del :
    answers (step (atPoll Params.default 0xC1#8 0x27#8 [0x7F#8])) (fun t => t.kbdData == 0xDF#8 && t.kbdStatus == 0xA7#8 && t.rx == []) = true := by decide

/-- Section 2.7, row 6, last column. -/
theorem test_kbd_del_other_erase_byte :
    answers (step (atPoll { Params.default with kbdEraseByte := 0x08#8 } 0xC1#8 0x27#8 [0x7F#8])) (fun t => t.kbdData == 0x88#8 && t.kbdStatus == 0xA7#8) = true := by decide

/-- Section 2.7, row 8. -/
theorem test_kbd_char :
    answers (step (atPoll Params.default 0x8A#8 0x27#8 [0x00#8])) (fun t => t.kbdData == 0x80#8 && t.kbdStatus == 0xA7#8) = true := by decide

/-- Section 2.7, row 12. -/
theorem test_kbd_char_overrun :
    answers (step (atPoll Params.default 0xC1#8 0x80#8 [0x42#8])) (fun t => t.kbdData == 0xC2#8 && t.kbdStatus == 0x80#8) = true := by decide

/-- Section 2.7, row 3; R199: the head leaves `RX`. -/
theorem test_kbd_rows_take_their_byte :
    answers (exec (.kbdChar 0x78#8) (start (line .high 0#16 0#8 []) |>.setRx [0x78#8, 0x41#8]))
      (fun t => t.kbdData == 0xF8#8 && t.kbdStatus == 0x80#8 && t.rx == [0x41#8]) = true := by decide

/-- A1, row P0. -/
theorem test_p0 :
    answers (step { start (line .high 0xFF00#16 0#8 []) with clk := .high })
      (fun t => t.phase == 1#3 && t.clk == .low && t.delay == 5) = true := by decide

/-- A1, row P1. -/
theorem test_p1 :
    answers (step { start (line .high 0xFF00#16 0#8 []) with phase := 1#3, clk := .low })
      (fun t => t.phase == 2#3 && t.clk == .low) = true := by decide

/-- A1, row P2. -/
theorem test_p2_to_output :
    answers (step { start (line .high 0xFF00#16 0#8 []) with phase := 2#3, clk := .low })
      (fun t => t.phase == 3#3 && t.dir == .cpuReads && t.pinMode == .output && t.clk == .low) = true := by decide

/-- B3, line 4: `DOUT` holds its byte but is not driven. -/
theorem test_p2_to_input :
    answers (step { start (line .low 0x0001#16 0x34#8 []) with
        phase := 2#3, dir := .cpuReads, pinMode := .output, dout := 0x5A#8 })
      (fun t => t.dir == .cpuWrites && t.pinMode == .input && t.dout == 0x5A#8 && drivenData t == none) = true := by decide

/-- A1, row P3. -/
theorem test_p3 :
    answers (step { start (line .high 0xFF00#16 0#8 []) with phase := 3#3, clk := .low })
      (fun t => t.phase == 4#3 && t.clk == .high) = true := by decide

/-- A1, row P4. -/
theorem test_p4 :
    answers (step { start (line .high 0xFF00#16 0#8 []) with phase := 4#3 })
      (fun t => t.phase == 5#3 && t.clk == .high) = true := by decide

/-- B1. -/
theorem test_p5 :
    answers (step { start (line .high 0xD010#16 0#8 []) with phase := 5#3 })
      (fun t => t.phase == 6#3 && t.addr.getLsbD 15 && t.addr.getLsbD 14 && t.addr.getLsbD 12 &&
        t.addr.getLsbD 4 && !t.addr.getLsbD 0) = true := by decide

/-- A1, row P6. -/
theorem test_p6_snapshot :
    answers (step (atDispatch .cpuReads 0xFF00#16 0#8)) (fun t => t.dout == 0x03#8 && t.phase == 7#3 &&
      t.prevValid && t.prevAddr == 0xFF00#16 && t.prevDir == .cpuReads) = true := by decide

/-- S8, line 3. -/
theorem test_p6_suppressed :
    answers (step { atDispatch .cpuWrites 0xD012#16 0x42#8 with
        prevValid := true, prevAddr := 0xD012#16, prevDir := .cpuWrites, dspData := 0x41#8, tx := [0x41#8] })
      (fun t => t.dspData == 0x41#8 && t.tx == [0x41#8] && t.phase == 7#3) = true := by decide

/-- E1, line 2: the flag cleared at P6 is set again at P7. -/
theorem test_p7_read_and_ingest :
    answers (step { atPoll Params.default 0xC1#8 0x00#8 [0x42#8] with dout := 0xC1#8 })
      (fun t => t.dout == 0xC1#8 && t.kbdData == 0xC2#8 && t.kbdStatus == 0x80#8 && t.cycles == 1 &&
        t.inputs == []) = true := by decide

/-- A1: the state after P7, by the atomic step. -/
theorem test_cycle :
    cycle 5 .high 0xFF00#16 0#8 none (State.resetWith Params.default ⟨[(0, 0xA9#8)], [], []⟩) =
      { State.resetWith Params.default ⟨[(0, 0xA9#8)], [], []⟩ with
        delay := 5, dir := .cpuReads, pinMode := .output, addr := 0xFF00#16, dout := 0xA9#8,
        prevValid := true, prevAddr := 0xFF00#16, prevDir := .cpuReads } := by decide

/-- A3: no direction change, no effect but on `DELAY`. -/
theorem test_pulse :
    pulse 7 .high { start (line .high 0#16 0#8 []) with dir := .cpuReads, pinMode := .output } =
      { start (line .high 0#16 0#8 []) with dir := .cpuReads, pinMode := .output, delay := 7 } := by decide

/-- R109. -/
theorem test_outputs :
    clkOut State.reset = .high ∧ drivenData State.reset = none ∧
    rxTake (atPoll Params.default 0#8 0#8 [0x41#8]) = true ∧ rxTake (atPoll Params.default 0#8 0#8 []) = false ∧
    txStrobes { State.reset with tx := [1#8] } { State.reset with tx := [1#8, 2#8] } = [2#8] := by decide

/-- A placed word is what the next step runs (log entry 7). -/
theorem test_placed_words_run :
    answers (step ((start (line .high 0#16 0x5A#8 [])).withFetchWord 24 0x1FFFC)) (fun t => t.dout == 0xE7#8) = true ∧
    answers (step ((start (line .high 0#16 0x5A#8 [])).withFetchWord 24 0x0D013)) (fun t => t.dspStatus == 0x5A#8) = true ∧
    answers (step ((start (line .high 0#16 0#8 [0x41#8])).withFetchWord 16 0x0FF)) (fun t => t.kbdStatus == 0#8) = true ∧
    answers (step (State.reset.withFetchWord 16 0x178)) (fun t => t.kbdData == 0xF8#8) = true ∧
    answers (step (State.reset.withFetchWord 8 0x3)) (fun t => t.clk == .high && t.phase == 4#3) = true := by decide

/-! Witnesses: for each obligation with hypotheses, states and operands that meet them all together. -/

/-- The boundary addresses of the map (R52). -/
def boundaries : List Addr :=
  [0x0000#16, 0x0FFF#16, 0x1000#16, 0xCFFF#16, 0xD000#16, 0xD00F#16, 0xD010#16, 0xD011#16, 0xD012#16,
   0xD013#16, 0xD014#16, 0xDFFF#16, 0xE000#16, 0xEFFF#16, 0xF000#16, 0xFEFF#16, 0xFF00#16, 0xFFFF#16]

theorem test_witness_DecodeEncodeRoundTrip :
    Instr.kbdDel.wf Params.default = true ∧ (Instr.kbdChar 0x0B#8).wf Params.default = true ∧
    Instr.kbdNone.wf equalCodes = true ∧ (Instr.rdUnmappedFE00 0xFF#8).wf equalCodes = true := by decide

theorem test_witness_StepRunsPhaseOperation :
    decode State.reset.params (.seq State.reset.phase) = .p0ClkLow := by decide

/-- Every direction, every address, every data byte. -/
theorem test_witness_DispatchRunsDecodedBusOperation (d : Dir) (a : Addr) (v : Byte) :
    (atDispatch d a v).phase = 6#3 ∧ changed (atDispatch d a v) = true ∧
      (atDispatch d a v).dir = d ∧ (atDispatch d a v).addr = a :=
  ⟨rfl, rfl, rfl, rfl⟩

theorem test_witness_PollRunsDecodedReceiveOperation :
    ∀ q ∈ [[], [0x0A#8], [0x7F#8], [0x41#8, 0x42#8]],
      (atPoll Params.default 0x00#8 0x00#8 q).phase = 7#3 := by decide

theorem test_witness_IngestNothingOrLineFeed :
    (State.reset.setRx []).rx = [] ∧
      (State.reset.setRx [0x0A#8, 0x41#8]).rx = State.reset.params.kbdLfByte :: [0x41#8] := by decide

theorem test_witness_IngestCharacterStoresWithFlags :
    ∀ b ∈ [0x00#8, 0x09#8, 0x0B#8, 0x7E#8, 0x80#8, 0xFF#8],
      b ≠ State.reset.params.kbdLfByte ∧ b ≠ State.reset.params.kbdDelByte := by decide

theorem test_witness_IngestDeleteStoresEraseByte :
    State.reset.params.kbdDelByte ≠ State.reset.params.kbdLfByte := by decide

theorem test_witness_DirectionSwitchOnlyOnChange :
    ∀ d ∈ [Dir.cpuReads, Dir.cpuWrites], ∀ l ∈ [Level.high, Level.low],
      sampleRw { start (line l 0#16 0#8 []) with dir := d } = l ∧
        State.dir { start (line l 0#16 0#8 []) with dir := d } = d := by decide

theorem test_witness_SuppressedDispatchOnlyMovesOn :
    ∀ d ∈ [Dir.cpuReads, Dir.cpuWrites],
      State.prevValid { atDispatch d 0xD012#16 0x42#8 with
        prevValid := true, prevAddr := 0xD012#16, prevDir := d } = true ∧
      (atDispatch d 0xD012#16 0x42#8).addr = 0xD012#16 ∧ (atDispatch d 0xD012#16 0x42#8).dir = d := by decide

theorem test_witness_OpenGateDispatchesOneAccess :
    (atDispatch .cpuWrites 0xD012#16 0x42#8).prevValid = false ∧
      (atDispatch .cpuWrites 0xD012#16 0x42#8).addr ≠ (atDispatch .cpuWrites 0xD012#16 0x42#8).prevAddr ∧
      (atDispatch .cpuReads 0x0000#16 0x42#8).dir ≠ (atDispatch .cpuReads 0x0000#16 0x42#8).prevDir := by decide

theorem test_witness_PollTakesAtMostOneByte :
    ∀ q ∈ [[], [0x0A#8], [0x7F#8], [0x41#8, 0x42#8]],
      ((atPoll Params.default 0#8 0#8 q).rx ++ (current (atPoll Params.default 0#8 0#8 q)).rx).head? = q.head? := by decide

/-- Every address, so every clause of the map at its boundaries. -/
theorem test_witness_DispatchedReadFollowsMap (a : Addr) :
    (atDispatch .cpuReads a 0x5A#8).phase = 6#3 ∧ changed (atDispatch .cpuReads a 0x5A#8) = true ∧
      (atDispatch .cpuReads a 0x5A#8).dir = .cpuReads ∧ (atDispatch .cpuReads a 0x5A#8).addr = a :=
  ⟨rfl, rfl, rfl, rfl⟩

/-- Every address, so every clause of the map at its boundaries. -/
theorem test_witness_DispatchedWriteFollowsMap (a : Addr) :
    (atDispatch .cpuWrites a 0x5A#8).phase = 6#3 ∧ changed (atDispatch .cpuWrites a 0x5A#8) = true ∧
      (atDispatch .cpuWrites a 0x5A#8).dir = .cpuWrites ∧ (atDispatch .cpuWrites a 0x5A#8).addr = a :=
  ⟨rfl, rfl, rfl, rfl⟩

/-- The clauses of the map at the boundaries of their ranges (R52, vector C1). -/
theorem test_region_boundaries :
    boundaries.map region = [.ram1, .ram1, .unmapped, .unmapped, .piaUnused, .piaUnused, .kbdData,
      .kbdStatus, .dspData, .dspStatus, .piaUnused, .piaUnused, .ram2, .ram2, .unmapped, .unmapped,
      .rom, .rom] := by decide +kernel

theorem test_witness_WritersOfEachElement_sequencer :
    answers (exec .p0ClkLow (start (line .high 0x1234#16 0x5A#8 [])))
        (fun t => t.clk != .high && t.phase != 0#3 && t.delay != 1) = true ∧
      answers (exec .p2DirUpdate (start (line .high 0x1234#16 0x5A#8 [])))
        (fun t => t.dir != .cpuWrites && t.pinMode != .input) = true ∧
      answers (exec .p5AddrSample (start (line .high 0x1234#16 0x5A#8 []))) (fun t => t.addr != 0#16) = true ∧
      answers (exec .p6Dispatch (atDispatch .cpuReads 0xFFFC#16 0#8))
        (fun t => t.dout != 0#8 && t.prevAddr != 0#16 && t.prevDir != .cpuWrites && t.prevValid != false) = true := by decide

theorem test_witness_WritersOfEachElement_bus :
    answers (exec (.rdRom 0xFC#8) (start (line .high 0#16 0x5A#8 []))) (fun t => t.dout != 0#8) = true ∧
      answers (exec .wrKbdData (start (line .low 0#16 0x5A#8 []))) (fun t => t.kbdData != 0#8) = true ∧
      answers (exec .wrKbdStatus (start (line .low 0#16 0x5A#8 []))) (fun t => t.kbdStatus != 0#8) = true ∧
      answers (exec .wrDspData (start (line .low 0#16 0x5A#8 []))) (fun t => t.tx != [] && t.dspData != 0#8) = true ∧
      answers (exec .wrDspStatus (start (line .low 0#16 0x5A#8 []))) (fun t => t.dspStatus != 0#8) = true ∧
      answers (exec (.wrRam1 5#12) (start (line .low 0#16 0x5A#8 []))) (fun t => t.ram1 != images.ram1) = true ∧
      answers (exec (.wrRam2 5#12) (start (line .low 0#16 0x5A#8 []))) (fun t => t.ram2 != images.ram2) = true := by decide

theorem test_witness_WritersOfEachElement_ingestion :
    answers (exec .kbdLf { start (line .high 0#16 0#8 []) with rx := [0x0A#8] }) (fun t => t.rx != [0x0A#8]) = true ∧
      answers (exec .kbdDel { start (line .high 0#16 0#8 []) with rx := [0x7F#8] })
        (fun t => t.rx != [0x7F#8] && t.kbdData != 0#8 && t.kbdStatus != 0#8) = true ∧
      answers (exec (.kbdChar 0x41#8) { start (line .high 0#16 0#8 []) with rx := [0x41#8] })
        (fun t => t.rx != [0x41#8] && t.kbdData != 0#8 && t.kbdStatus != 0#8) = true ∧
      answers (exec .p7KbdPoll { start (line .high 0#16 0#8 []) with rx := [0x0A#8] }) (fun t => t.rx != [0x0A#8]) = true := by decide

theorem test_witness_OnlyDispatchedDisplayWriteEmits :
    answers (step (atDispatch .cpuWrites 0xD012#16 0x41#8))
        (fun t => t.tx != (atDispatch .cpuWrites 0xD012#16 0x41#8).tx) = true := by decide

theorem test_witness_TerminalReachesOnlyKeyboardRegisters :
    answers (step (atPoll Params.default 0#8 0#8 [])) (fun t => t.kbdStatus == 0#8) = true ∧
      answers (step { atPoll Params.default 0#8 0#8 [] with rx := [0x41#8] })
        (fun u => u.kbdStatus == 0x80#8 && u.kbdData == 0xC1#8) = true := by decide

/-- A state that meets the invariant, at P6 of a read cycle after a write, with memory in both banks. -/
theorem test_witness_StepKeepsInvariant_dispatch :
    Inv { atDispatch .cpuReads 0xE000#16 0x00#8 with prevValid := true, prevAddr := 0x0FFF#16 } ∧
      answers (step { atDispatch .cpuReads 0xE000#16 0x00#8 with prevValid := true, prevAddr := 0x0FFF#16 })
        (fun t => t.dout == 0x4C#8) = true :=
  ⟨by constructor <;> decide, by decide⟩

/-- A state that meets the invariant, at P7. -/
theorem test_witness_StepKeepsInvariant_poll :
    Inv (atPoll Params.default 0xC1#8 0x80#8 [0x42#8]) ∧
      answers (step (atPoll Params.default 0xC1#8 0x80#8 [0x42#8])) (fun t => t.kbdData == 0xC2#8) = true :=
  ⟨by constructor <;> decide, by decide⟩

theorem test_witness_ResetMeetsInvariant :
    images.wf := by decide

theorem test_witness_ResetLoadsTable : ∃ before : State, before.tx = [0x41#8] ∧ before.phase = 6#3 ∧
    powerOn images before = { State.resetWith Params.default images with rx := [0x42#8], inputs := before.inputs } :=
  ⟨{ atDispatch .cpuReads 0xD010#16 0x00#8 with tx := [0x41#8], rx := [0x42#8] }, rfl, rfl, rfl⟩

theorem test_witness_EightPhasesAreOneCycle :
    (start (line .low 0xD012#16 0x41#8 [0x42#8])).phase = 0#3 := by decide

/-- Both banks, at their ends; the three cases of an open gate. -/
theorem test_witness_RamRoundTrip (a : Addr)
    (h : a = 0x0000#16 ∨ a = 0x0FFF#16 ∨ a = 0xE000#16 ∨ a = 0xEFFF#16) :
    State.reset.pinMode = PinMode.ofDir State.reset.dir ∧
      (a.toNat ≤ 0x0FFF ∨ (0xE000 ≤ a.toNat ∧ a.toNat ≤ 0xEFFF)) ∧ State.reset.prevValid = false ∧
      State.prevAddr { State.reset with prevValid := true, prevAddr := 0xFF00#16 } ≠ a ∧
      State.prevDir { State.reset with prevValid := true, prevDir := .cpuReads } ≠ .cpuWrites := by
  rcases h with rfl | rfl | rfl | rfl <;> simp [State.reset, State.resetWith, PinMode.ofDir]

theorem test_witness_RomImmutability :
    0xFF00 ≤ (0xFF00#16).toNat ∧ 0xFF00 ≤ (0xFFFF#16).toNat ∧
      ∃ t : State, step (atDispatch .cpuWrites 0xFF00#16 0x99#8) = .next t :=
  ⟨by simp, by simp, _, rfl⟩

theorem test_witness_IngestionFollowsDispatch :
    State.reset.prevValid = false ∧
      State.prevAddr { State.reset with prevValid := true, prevAddr := 0xD011#16 } ≠ 0xD010#16 ∧
      State.prevDir { State.reset with prevValid := true, prevAddr := 0xD010#16 } ≠ .cpuReads ∧
      0x42#8 ≠ State.reset.params.kbdLfByte ∧ 0x42#8 ≠ State.reset.params.kbdDelByte := by decide

theorem test_witness_SwitchToOutputIsFollowedByRead :
    Inv { start (line .high 0xFF00#16 0#8 []) with phase := 2#3, clk := .low } ∧
      State.pinMode { start (line .high 0xFF00#16 0#8 []) with phase := 2#3, clk := .low } = .input ∧
      sampleRw { start (line .high 0xFF00#16 0#8 []) with phase := 2#3, clk := .low } = .high :=
  ⟨by constructor <;> decide, rfl, rfl⟩

theorem test_witness_TxOnlyGrows :
    ∃ t : State, Host.Core.run Sys2Proof.core 1 (atDispatch .cpuWrites 0xD012#16 0x41#8) = .next t ∧
      t.tx = [0x41#8] :=
  ⟨_, rfl, rfl⟩

end Sys2Proof.Machine.Tests
end

section
/-!
SUPPORT. The decoder of the bus words inverts the encoder (R86, R87): every test of the decoder asks whether
the address lies in a block of addresses, and the address of an encoded word lies in its own block only.
-/

namespace Sys2Proof

/-- A slice of an address that reaches its top bit names a block of addresses (R87). -/
theorem topSlice_eq_iff (a : BitVec 16) (lo : Nat) (c : BitVec (15 - lo + 1)) :
    a.extractLsb 15 lo = c ↔ c.toNat * 2 ^ lo ≤ a.toNat ∧ a.toNat < c.toNat * 2 ^ lo + 2 ^ lo := by
  have hq : a.toNat / 2 ^ lo < 2 ^ (15 - lo + 1) := by
    rw [Nat.div_lt_iff_lt_mul (by positivity), ← pow_add]
    exact a.isLt.trans_le (Nat.pow_le_pow_right (by decide) (by omega))
  rw [Words.slice_eq_iff, Nat.mod_eq_of_lt hq, Nat.div_eq_iff (by positivity)]
  have := Nat.two_pow_pos lo
  omega

section

variable {m n c k : Nat} {hi : BitVec m} {x : BitVec n} {a : Addr}

/-- The address of a bus word made of a row's fixed bits and an operand. -/
theorem toNat_addr_of_append (ha : (hi ++ x).extractLsb 15 0 = a) (hn : n ≤ 16) :
    a.toNat = hi.toNat % 2 ^ (16 - n) * 2 ^ n + x.toNat := by
  rw [← ha, Words.toNat_slice, Words.toNat_append_add, pow_zero, Nat.div_one,
    show 15 - 0 + 1 = n + (16 - n) by omega, pow_add, Nat.mod_mul, Nat.mul_add_mod_of_lt x.isLt,
    Nat.mul_comm hi.toNat, Nat.mul_add_div (by positivity), Nat.div_eq_of_lt x.isLt, Nat.add_zero,
    Nat.mul_comm, Nat.add_comm]

/-- A row's block lies outside every block that ends before it or begins after it. -/
theorem not_block_of_row (h : a.toNat = c * 2 ^ n + x.toNat) {d : Nat}
    (hd : c * 2 ^ n + 2 ^ n ≤ d * 2 ^ k ∨ d * 2 ^ k + 2 ^ k ≤ c * 2 ^ n) :
    ¬(d * 2 ^ k ≤ a.toNat ∧ a.toNat < d * 2 ^ k + 2 ^ k) := by
  have := x.isLt
  omega

/-- A row's block holds no register address before or after it. -/
theorem ne_of_row (h : a.toNat = c * 2 ^ n + x.toNat) {d : Nat}
    (hd : c * 2 ^ n + 2 ^ n ≤ d ∨ d < c * 2 ^ n) : ¬a.toNat = d := by
  have := x.isLt
  omega

/-- A row's block lies inside the block of its own test. -/
theorem block_of_row (h : a.toNat = c * 2 ^ n + x.toNat) {d : Nat}
    (hd : d * 2 ^ k ≤ c * 2 ^ n ∧ c * 2 ^ n + 2 ^ n ≤ d * 2 ^ k + 2 ^ k) :
    d * 2 ^ k ≤ a.toNat ∧ a.toNat < d * 2 ^ k + 2 ^ k := by
  have := x.isLt
  omega

end

/-- The operand of a row is the low slice of the address. -/
theorem lowSlice_of_append {m k : Nat} {hi : BitVec m} {x : BitVec (k + 1)} {a : Addr}
    (ha : (hi ++ x).extractLsb 15 0 = a) (hk : k ≤ 15) : a.extractLsb k 0 = x := by
  apply BitVec.eq_of_toNat_eq
  rw [Words.toNat_slice, toNat_addr_of_append ha (by omega), pow_zero, Nat.div_one]
  exact Nat.mul_add_mod_of_lt x.isLt

/-- The decoder inverts the encoder on every BUS17 word, for all byte codes (R87). The chain of tests is
turned into comparisons of numbers once; then for each row the tests before its own fail, its own succeeds
(the last row of the chain has none), and bit 16 chooses the direction. -/
theorem decodeBus_encode {p : Params} {i : Instr} {w : BitVec 17} (h : encode p i = .bus w) :
    decodeBus w = i := by
  obtain ⟨a, ha⟩ : ∃ a : Addr, w.extractLsb 15 0 = a := ⟨_, rfl⟩
  simp only [decodeBus, ha, topSlice_eq_iff, ← BitVec.toNat_inj (x := a)]
  cases i
  case kbdNone | kbdLf | kbdDel | kbdChar | p0ClkLow | p1WaitLow | p2DirUpdate | p3ClkHigh
    | p4WaitHigh | p5AddrSample | p6Dispatch | p7KbdPoll => cases h
  case rdKbdData | wrKbdData | rdKbdStatus | wrKbdStatus | rdDspData | wrDspData | rdDspStatus
    | wrDspStatus =>
    obtain rfl := Word.bus.inj h
    obtain rfl := ha
    simp [byRw]
  all_goals
    obtain rfl := Word.bus.inj h
    have hw := toNat_addr_of_append ha (by decide)
    repeat rw [if_neg (not_block_of_row hw (by decide))]
    repeat rw [if_neg (ne_of_row hw (by decide))]
    rw [lowSlice_of_append ha (by decide), BitVec.getLsbD_append]
  case rdUnmappedFE00 | wrUnmappedFE00 => rfl
  all_goals
    rw [if_pos (block_of_row hw (by decide))]
    rfl

end Sys2Proof
end

section
/-!
SUPPORT. Which addresses a region has (R52, R140), as ranges of numbers, and what `peek` answers there.
-/

namespace Sys2Proof.Machine

variable {a : Addr}

theorem region_eq_ram1_iff : region a = .ram1 ↔ a.toNat < 0x1000 := by
  unfold region
  split_ifs <;> simp_all [topSlice_eq_iff]
  all_goals omega

theorem region_eq_ram2_iff : region a = .ram2 ↔ 0xE000 ≤ a.toNat ∧ a.toNat < 0xF000 := by
  unfold region
  split_ifs <;> simp_all [topSlice_eq_iff]
  all_goals omega

theorem region_eq_rom_iff : region a = .rom ↔ 0xFF00 ≤ a.toNat := by
  unfold region
  split_ifs <;> simp_all [topSlice_eq_iff]
  all_goals omega

theorem region_eq_dspData_iff : region a = .dspData ↔ a = Config.dspDataAddr := by
  constructor
  · unfold region
    split_ifs <;> simp_all
  · rintro rfl
    rfl

variable {s : State}

theorem peek_of_ram1 (h : a.toNat < 0x1000) : peek a s = s.ram1.read a.toNat := by
  rw [peek, memRead, region_eq_ram1_iff.mpr h]
  rfl

theorem peek_of_ram2 (h : 0xE000 ≤ a.toNat ∧ a.toNat < 0xF000) :
    peek a s = s.ram2.read (a.toNat - 0xE000) := by
  rw [peek, memRead, region_eq_ram2_iff.mpr h]
  change s.ram2.read (a - Config.ram2Base).toNat = _
  rw [BitVec.toNat_sub_of_le h.1]
  rfl

theorem peek_of_rom (h : 0xFF00 ≤ a.toNat) : peek a s = s.rom.read (a.toNat - 0xFF00) := by
  rw [peek, memRead, region_eq_rom_iff.mpr h]
  change s.rom.read (a - Config.romBase).toNat = _
  rw [BitVec.toNat_sub_of_le h]
  rfl

/-- Cell `i` of `RAM1` is at address `i` (R52). -/
theorem peek_ram1_cell (i : BitVec 12) (s : State) :
    peek (BitVec.ofNat 16 i.toNat) s = s.ram1.read i.toNat := by
  have ha : (BitVec.ofNat 16 i.toNat).toNat = i.toNat := by
    rw [BitVec.toNat_ofNat, Nat.mod_eq_of_lt (by omega)]
  rw [peek_of_ram1 (by omega), ha]

/-- Cell `i` of `RAM2` is at address 0xE000 + `i` (R52). -/
theorem peek_ram2_cell (i : BitVec 12) (s : State) :
    peek (BitVec.ofNat 16 (0xE000 + i.toNat)) s = s.ram2.read i.toNat := by
  have ha : (BitVec.ofNat 16 (0xE000 + i.toNat)).toNat = 0xE000 + i.toNat := by
    rw [BitVec.toNat_ofNat, Nat.mod_eq_of_lt (by omega)]
  rw [peek_of_ram2 (by omega), ha, Nat.add_sub_cancel_left]

/-- Cell `i` of `ROM` is at address 0xFF00 + `i` (R52). -/
theorem peek_rom_cell (i : BitVec 8) (s : State) :
    peek (BitVec.ofNat 16 (0xFF00 + i.toNat)) s = s.rom.read i.toNat := by
  have ha : (BitVec.ofNat 16 (0xFF00 + i.toNat)).toNat = 0xFF00 + i.toNat := by
    rw [BitVec.toNat_ofNat, Nat.mod_eq_of_lt (by omega)]
  rw [peek_of_rom (by omega), ha, Nat.add_sub_cancel_left]

@[simp] theorem peek_kbdDataAddr : peek 0xD010#16 s = s.kbdData := rfl
@[simp] theorem peek_kbdStatusAddr : peek 0xD011#16 s = s.kbdStatus := rfl
@[simp] theorem peek_dspDataAddr : peek 0xD012#16 s = s.dspData := rfl
@[simp] theorem peek_dspStatusAddr : peek 0xD013#16 s = s.dspStatus := rfl

end Sys2Proof.Machine
end

section
/-!
SUPPORT. The frames of the two operations with many cases, the dispatch of P6 and the poll of P7:
one lemma for each field that the operation leaves alone or always sets.
-/

namespace Sys2Proof.Machine

variable (d : Byte) (s : State)

/-- The dispatch always leaves the sampled pair in the snapshot; besides it only what an access can
reach changes (R126). -/
theorem dispatch_frame :
    dispatch d s = { s with
      dout := (dispatch d s).dout
      ram1 := (dispatch d s).ram1
      ram2 := (dispatch d s).ram2
      kbdData := (dispatch d s).kbdData
      kbdStatus := (dispatch d s).kbdStatus
      dspData := (dispatch d s).dspData
      dspStatus := (dispatch d s).dspStatus
      tx := (dispatch d s).tx
      prevAddr := s.addr
      prevDir := s.dir
      prevValid := true } := by
  rw [dispatch_eq]
  split
  · rw [access_eq]
    rfl
  · rfl

@[simp] theorem dispatch_clk : (dispatch d s).clk = s.clk := by rw [dispatch_frame]
@[simp] theorem dispatch_phase : (dispatch d s).phase = s.phase := by rw [dispatch_frame]
@[simp] theorem dispatch_delay : (dispatch d s).delay = s.delay := by rw [dispatch_frame]
@[simp] theorem dispatch_dir : (dispatch d s).dir = s.dir := by rw [dispatch_frame]
@[simp] theorem dispatch_pinMode : (dispatch d s).pinMode = s.pinMode := by rw [dispatch_frame]
@[simp] theorem dispatch_addr : (dispatch d s).addr = s.addr := by rw [dispatch_frame]
@[simp] theorem dispatch_prevValid : (dispatch d s).prevValid = true := by rw [dispatch_frame]
@[simp] theorem dispatch_prevAddr : (dispatch d s).prevAddr = s.addr := by rw [dispatch_frame]
@[simp] theorem dispatch_prevDir : (dispatch d s).prevDir = s.dir := by rw [dispatch_frame]
@[simp] theorem dispatch_rom : (dispatch d s).rom = s.rom := by rw [dispatch_frame]
@[simp] theorem dispatch_rx : (dispatch d s).rx = s.rx := by rw [dispatch_frame]
@[simp] theorem dispatch_params : (dispatch d s).params = s.params := by rw [dispatch_frame]

/-- The poll changes the two keyboard registers and takes the head of `RX` (R200). -/
theorem poll_frame :
    poll s = { s with
      kbdData := (poll s).kbdData
      kbdStatus := (poll s).kbdStatus
      rx := (s.rx ++ (current s).rx).tail } := by
  rw [poll, kbdPoll_eq]
  rfl

@[simp] theorem poll_clk : (poll s).clk = s.clk := by rw [poll_frame]
@[simp] theorem poll_delay : (poll s).delay = s.delay := by rw [poll_frame]
@[simp] theorem poll_dir : (poll s).dir = s.dir := by rw [poll_frame]
@[simp] theorem poll_pinMode : (poll s).pinMode = s.pinMode := by rw [poll_frame]
@[simp] theorem poll_dout : (poll s).dout = s.dout := by rw [poll_frame]
@[simp] theorem poll_addr : (poll s).addr = s.addr := by rw [poll_frame]
@[simp] theorem poll_prevValid : (poll s).prevValid = s.prevValid := by rw [poll_frame]
@[simp] theorem poll_prevAddr : (poll s).prevAddr = s.prevAddr := by rw [poll_frame]
@[simp] theorem poll_prevDir : (poll s).prevDir = s.prevDir := by rw [poll_frame]
@[simp] theorem poll_ram1 : (poll s).ram1 = s.ram1 := by rw [poll_frame]
@[simp] theorem poll_ram2 : (poll s).ram2 = s.ram2 := by rw [poll_frame]
@[simp] theorem poll_rom : (poll s).rom = s.rom := by rw [poll_frame]
@[simp] theorem poll_dspData : (poll s).dspData = s.dspData := by rw [poll_frame]
@[simp] theorem poll_dspStatus : (poll s).dspStatus = s.dspStatus := by rw [poll_frame]
@[simp] theorem poll_tx : (poll s).tx = s.tx := by rw [poll_frame]
@[simp] theorem poll_params : (poll s).params = s.params := by rw [poll_frame]

end Sys2Proof.Machine
end

section
/-!
SUPPORT. What an access does to the display register, the banks and `TX`.
-/

namespace Sys2Proof.Machine

variable {d : Byte} {s : State}

/-- Only a display write appends to `TX`, and it appends `DspBytes` of the byte (R183). -/
theorem access_tx (d : Byte) (s : State) : (access d s).tx =
    if s.dir = .cpuWrites ∧ s.addr = Config.dspDataAddr then s.tx ++ dspBytes s.params d else s.tx := by
  cases hd : s.dir with
  | cpuWrites => simp [access_of_write hd, memWrite_eq, region_eq_dspData_iff]
  | cpuReads => simp [access_of_read hd, readAccess_eq]

/-- An access leaves bit 7 of `DSP_DATA` clear (R39 (b)). -/
theorem access_dspData_bit (h : s.dspData.getLsbD 7 = false) :
    (access d s).dspData.getLsbD 7 = false := by
  cases hd : s.dir with
  | cpuWrites =>
    rw [access_of_write hd, memWrite_eq]
    dsimp only
    split
    · simp
    · exact h
  | cpuReads => rwa [access_of_read hd, readAccess_eq]

/-- A write reaches `RAM1` only inside the bank, so its canonical form is kept. -/
theorem access_ram1_wf (h : s.ram1.wf Config.ramSize) : (access d s).ram1.wf Config.ramSize := by
  cases hd : s.dir with
  | cpuWrites =>
    rw [access_of_write hd, memWrite_eq]
    dsimp only
    split
    · next hr => exact Memory.wf_write h (region_eq_ram1_iff.mp hr)
    · exact h
  | cpuReads => rwa [access_of_read hd, readAccess_eq]

/-- A write reaches `RAM2` only inside the bank, so its canonical form is kept. -/
theorem access_ram2_wf (h : s.ram2.wf Config.ramSize) : (access d s).ram2.wf Config.ramSize := by
  cases hd : s.dir with
  | cpuWrites =>
    rw [access_of_write hd, memWrite_eq]
    dsimp only
    split
    · next hr =>
      obtain ⟨hlo, hhi⟩ := region_eq_ram2_iff.mp hr
      refine Memory.wf_write h ?_
      rw [BitVec.toNat_sub_of_le hlo]
      simp only [Config.ram2Base, Config.ramSize, BitVec.toNat_ofNat]
      omega
    · exact h
  | cpuReads => rwa [access_of_read hd, readAccess_eq]

/-- A property of the state that the access keeps and the snapshot keeps, the dispatch keeps, suppressed or
not (R126). -/
theorem dispatch_keeps {P : State → Prop} (hsnap : ∀ u : State, P u → P u.snapshot) (h : P s)
    (ha : P (access d s)) : P (dispatch d s) := by
  rw [dispatch_eq]
  split
  · exact hsnap _ ha
  · exact hsnap _ h

/-- A dispatch, suppressed or not, leaves bit 7 of `DSP_DATA` clear (R39 (b)). -/
theorem dispatch_dspData_bit (h : s.dspData.getLsbD 7 = false) :
    (dispatch d s).dspData.getLsbD 7 = false :=
  dispatch_keeps (P := fun u => u.dspData.getLsbD 7 = false) (fun _ => id) h (access_dspData_bit h)

theorem dispatch_ram1_wf (h : s.ram1.wf Config.ramSize) : (dispatch d s).ram1.wf Config.ramSize :=
  dispatch_keeps (P := fun u => u.ram1.wf Config.ramSize) (fun _ => id) h (access_ram1_wf h)

theorem dispatch_ram2_wf (h : s.ram2.wf Config.ramSize) : (dispatch d s).ram2.wf Config.ramSize :=
  dispatch_keeps (P := fun u => u.ram2.wf Config.ramSize) (fun _ => id) h (access_ram2_wf h)

/-- `TX` after a dispatch: longer only by the bytes of a display write let through the gate. -/
theorem dispatch_tx (d : Byte) (s : State) : (dispatch d s).tx =
    if changed s = true ∧ s.dir = .cpuWrites ∧ s.addr = Config.dspDataAddr then
      s.tx ++ dspBytes s.params d
    else s.tx := by
  rw [dispatch_eq]
  cases changed s <;> simp [access_tx]

end Sys2Proof.Machine
end

section
/-!
SUPPORT. Steps and runs: every step answers, the phases follow each other, and a run is its first step and
the rest.
-/

namespace Sys2Proof.Machine

variable {s t : State}

/-- No operation of the table is refused or faults (R210). -/
theorem exec_answers (i : Instr) (s : State) : ∃ t : State, exec i s = .next t := by
  cases i <;> exact ⟨_, rfl⟩

theorem step_answers (s : State) : ∃ t : State, step s = .next t := exec_answers _ s

/-- The phases follow each other, P0 after P7 (R101). -/
theorem step_phase (h : step s = .next t) : t.phase = s.phase + 1#3 := by
  obtain ⟨hp, rfl⟩ | ⟨hp, rfl⟩ | ⟨hp, rfl⟩ | ⟨hp, rfl⟩ | ⟨hp, rfl⟩ | ⟨hp, rfl⟩ | ⟨hp, rfl⟩ |
    ⟨hp, rfl⟩ := step_cases h <;> rw [hp] <;> rfl

/-! The steps from the direction update to the address sample (R101). -/

theorem step_of_phase_two (h : s.phase = 2#3) :
    step s = .next ((dirUpdate (sampleRw s) s).setPhase 3#3) := by
  rw [step, h]
  rfl

theorem step_of_phase_three (h : s.phase = 3#3) : step s = .next ((s.setClk .high).setPhase 4#3) := by
  rw [step, h]
  rfl

theorem step_of_phase_four (h : s.phase = 4#3) : step s = .next (s.setPhase 5#3) := by
  rw [step, h]
  change Host.Outcome.next (s.setPhase (s.phase + 1#3)) = _
  rw [h]
  rfl

theorem step_of_phase_five (h : s.phase = 5#3) :
    step s = .next ((s.setAddr (sampleAddr s)).setPhase 6#3) := by
  rw [step, h]
  rfl

/-- A run is its first step and the rest of the run. -/
theorem run_succ (h : step s = .next t) (k : Nat) :
    Host.Core.run Sys2Proof.core (k + 1) s = Host.Core.run Sys2Proof.core k t := by
  have hc : Sys2Proof.core.step s = .next t := h
  simp only [Host.Core.run, hc]

end Sys2Proof.Machine
end

section
/-!
SUPPORT. The invariant of the phase boundaries (R39, R106): it holds after reset and after every restart,
and every step keeps it. What the reset table gives (R41).
-/

namespace Sys2Proof.Machine

/-- Settles O38, phase by phase: only P2 touches the pins, only P6 the display register and the banks. -/
theorem stepKeepsInvariant : Obligations.StepKeepsInvariant := by
  rintro s t ⟨pins, display, clock, seen, sameAddr, sameDir, ram1, ram2, rom⟩ h
  obtain ⟨hp, rfl⟩ | ⟨hp, rfl⟩ | ⟨hp, rfl⟩ | ⟨hp, rfl⟩ | ⟨hp, rfl⟩ | ⟨hp, rfl⟩ | ⟨hp, rfl⟩ |
    ⟨hp, rfl⟩ := step_cases h <;> rw [hp] at clock sameAddr sameDir
  · exact ⟨pins, display, rfl, nofun, fun _ => sameAddr (by decide), fun _ => sameDir (by decide),
      ram1, ram2, rom⟩
  · exact ⟨pins, display, clock, nofun, fun _ => sameAddr (by decide), fun _ => sameDir (by decide),
      ram1, ram2, rom⟩
  · -- P2: the pins follow the direction, which may differ from the snapshot's from here on
    rw [dirUpdate_eq]
    refine ⟨?_, display, clock, nofun, fun _ => sameAddr (by decide), nofun, ram1, ram2, rom⟩
    exact ite_eq_right_iff.mpr fun hd => pins.trans (congrArg _ hd.symm)
  · exact ⟨pins, display, rfl, nofun, fun _ => sameAddr (by decide), by simp, ram1, ram2, rom⟩
  · exact ⟨pins, display, clock, nofun, fun _ => sameAddr (by decide), by simp, ram1, ram2, rom⟩
  · -- P5: from here to P6 the sampled address may differ from the snapshot's
    exact ⟨pins, display, clock, nofun, by simp, by simp, ram1, ram2, rom⟩
  · -- P6: the snapshot takes the sampled pair; the access keeps the register's bit and the banks' form
    exact ⟨by simpa using pins, dispatch_dspData_bit display, (dispatch_clk ..).trans clock, by simp,
      by simp, by simp, dispatch_ram1_wf ram1, dispatch_ram2_wf ram2, by simpa using rom⟩
  · rw [poll_frame]
    exact ⟨pins, display, clock, nofun, fun _ => sameAddr (by decide), fun _ => sameDir (by decide),
      ram1, ram2, rom⟩

/-- The reset state meets the invariant for all byte codes and all canonical images (R41). -/
theorem resetWith_inv (p : Params) {img : Images} (h : img.wf) : Inv (State.resetWith p img) := by
  obtain ⟨rom, ram1, ram2⟩ := h
  exact ⟨rfl, by simp [State.resetWith], rfl, nofun, nofun, nofun, ram1, ram2, rom⟩

/-- Settles O39: a restart keeps nothing of the state but what the invariant does not look at. -/
theorem resetMeetsInvariant : Obligations.ResetMeetsInvariant := by
  intro p img s h
  refine ⟨resetWith_inv p h, ?_⟩
  obtain ⟨pins, display, clock, seen, sameAddr, sameDir, ram1, ram2, rom⟩ := resetWith_inv s.params h
  exact ⟨pins, display, clock, seen, sameAddr, sameDir, ram1, ram2, rom⟩

/-- Settles O40: a restart is the reset state but for the environment's part, and the banks are the
images. -/
theorem resetLoadsTable : Obligations.ResetLoadsTable := by
  intro p img s h
  have hs : s = { State.resetWith s.params img with
      rx := s.rx, inputs := s.inputs, cycles := s.cycles } := by
    rcases h with rfl | ⟨before, rfl⟩ <;> rfl
  rw [hs]
  exact ⟨rfl, rfl, rfl, rfl, rfl, peek_kbdDataAddr, peek_kbdStatusAddr, peek_dspDataAddr,
    peek_dspStatusAddr, rfl, rfl, fun i => ⟨peek_ram1_cell i _, peek_ram2_cell i _⟩,
    fun i => peek_rom_cell i _⟩

end Sys2Proof.Machine
end

section
/-!
SUPPORT. What a step and a run do to `TX` and to `PHASE` (R36, R101).
-/

namespace Sys2Proof.Machine

variable {s t : State}

/-- One step appends to `TX` only in a dispatched write of 0xD012 (R36, R183). -/
theorem step_tx (h : step s = .next t) : t.tx =
    if s.phase = 6#3 ∧ changed s = true ∧ s.dir = .cpuWrites ∧ s.addr = Config.dspDataAddr then
      s.tx ++ dspBytes s.params (sampleData s)
    else s.tx := by
  obtain ⟨hp, rfl⟩ | ⟨hp, rfl⟩ | ⟨hp, rfl⟩ | ⟨hp, rfl⟩ | ⟨hp, rfl⟩ | ⟨hp, rfl⟩ | ⟨hp, rfl⟩ |
    ⟨hp, rfl⟩ := step_cases h <;> simp [hp, dirUpdate_eq, dispatch_tx]

/-- Settles O36: of `step_tx` only the first case changes `TX`, and `DspBytes` is one byte or two. -/
theorem onlyDispatchedDisplayWriteEmits : Obligations.OnlyDispatchedDisplayWriteEmits := by
  intro s t h hne
  have htx := step_tx h
  split at htx
  · next hc =>
    obtain ⟨hphase, hgate, hdir, haddr⟩ := hc
    exact ⟨hphase, hgate, hdir, haddr, _, htx, dspBytes_length _ _⟩
  · exact absurd htx hne

theorem step_tx_grows (h : step s = .next t) : s.tx <+: t.tx := by
  rw [step_tx h]
  split
  · exact ⟨_, rfl⟩
  · exact ⟨[], List.append_nil _⟩

/-- Settles O48, by induction on the number of steps. -/
theorem txOnlyGrows : Obligations.TxOnlyGrows := by
  intro k
  induction k with
  | zero =>
    intro s t h
    cases h
    exact ⟨[], List.append_nil _⟩
  | succ k ih =>
    intro s t h
    obtain ⟨u, hu⟩ := step_answers s
    rw [run_succ hu] at h
    exact (step_tx_grows hu).trans (ih u t h)

/-- Settles O49, by induction on the number of steps. -/
theorem sequencerIsCyclic : Obligations.SequencerIsCyclic := by
  intro k
  induction k with
  | zero => exact fun s => ⟨s, rfl, (Nat.mod_eq_of_lt s.phase.isLt).symm⟩
  | succ k ih =>
    intro s
    obtain ⟨u, hu⟩ := step_answers s
    obtain ⟨t, ht, hphase⟩ := ih u
    refine ⟨t, (run_succ hu k).trans ht, ?_⟩
    rw [hphase, step_phase hu, BitVec.toNat_add]
    simp only [BitVec.toNat_ofNat]
    omega

/-- Settles O47: by the invariant the last cycle, where there was one, was a write, so the direction has
changed and the gate is open; nothing before P6 drives a new byte. -/
theorem switchToOutputIsFollowedByRead : Obligations.SwitchToOutputIsFollowedByRead := by
  intro s hs hp hin hrw
  have hdir : s.dir = .cpuWrites := by
    cases hd : s.dir with
    | cpuWrites => rfl
    | cpuReads => simp [hs.pins, hd, PinMode.ofDir] at hin
  have hrun := (run_succ (step_of_phase_two hp) 3).trans <|
    (run_succ (step_of_phase_three rfl) 2).trans <|
    (run_succ (step_of_phase_four rfl) 1).trans <| run_succ (step_of_phase_five rfl) 0
  refine ⟨_, hrun, rfl, ?_, ?_, ?_⟩
  · simp [dirUpdate_eq, hrw, Dir.ofLevel]
  · have hprev := hs.sameDir (by simp [hp])
    rw [hdir] at hprev
    cases hv : s.prevValid <;> simp_all [changed_eq_true, dirUpdate_eq, Dir.ofLevel]
  · simp [drivenData, dirUpdate_eq, hrw, hdir, Dir.ofLevel, PinMode.ofDir]

end Sys2Proof.Machine
end

section
/-!
SUPPORT. What a read cycle drives, and the ROM (R31, R126, R162, R166).
-/

namespace Sys2Proof.Machine

variable {s t : State} {hp : Duration} {rw : Level} {a : Addr} {d : Byte} {rx : Option Byte}

/-- An ingestion case changes neither the latch, nor the pair, nor the snapshot, nor the ROM. -/
@[simp] theorem kbdPoll_dout : (kbdPoll rx s).dout = s.dout := by rw [kbdPoll_eq]
@[simp] theorem kbdPoll_prevDir : (kbdPoll rx s).prevDir = s.prevDir := by rw [kbdPoll_eq]
@[simp] theorem kbdPoll_rom : (kbdPoll rx s).rom = s.rom := by rw [kbdPoll_eq]

/-- The net effect of the clock pulse (R103). -/
theorem pulse_eq : pulse hp rw s = { s with
    delay := hp
    clk := .high
    dir := Dir.ofLevel rw
    pinMode := if Dir.ofLevel rw = s.dir then s.pinMode else PinMode.ofDir (Dir.ofLevel rw) } := by
  simp only [pulse, wait, dirUpdate_eq]
  rfl

@[simp] theorem cycle_rom : (cycle hp rw a d rx s).rom = s.rom := by
  simp [cycle, pulse_eq]

/-- After a cycle the snapshot holds the direction the cycle sampled (R126). -/
@[simp] theorem cycle_prevDir : (cycle hp rw a d rx s).prevDir = Dir.ofLevel rw := by
  simp [cycle, pulse_eq]

/-- Before the dispatch of a cycle no location has changed (R100). -/
theorem peek_setAddr_pulse (b : Addr) : peek b ((pulse hp rw s).setAddr a) = peek b s := by
  rw [pulse_eq, peek, peek, memRead, memRead]
  cases region b <;> rfl

/-- A read cycle that the gate lets through drives what its address holds (R126, R143). -/
theorem cycle_dout_of_read (h : s.prevValid = false ∨ s.prevAddr ≠ a ∨ s.prevDir ≠ .cpuReads) :
    (cycle hp .high a d rx s).dout = peek a s := by
  have hgate : changed ((pulse hp .high s).setAddr a) = true := by
    rw [changed_eq_true, pulse_eq]
    exact h.imp_right (Or.imp Ne.symm Ne.symm)
  have hread : ((pulse hp .high s).setAddr a).dir = .cpuReads := by simp [pulse_eq, Dir.ofLevel]
  simp only [cycle, kbdPoll_dout, dispatch_eq, hgate, if_true, State.snapshot_dout]
  rw [access_of_read hread, readAccess_eq]
  exact peek_setAddr_pulse a

/-- No step writes the ROM (R31). -/
theorem step_rom (h : step s = .next t) : t.rom = s.rom := by
  obtain ⟨hp, rfl⟩ | ⟨hp, rfl⟩ | ⟨hp, rfl⟩ | ⟨hp, rfl⟩ | ⟨hp, rfl⟩ | ⟨hp, rfl⟩ | ⟨hp, rfl⟩ |
    ⟨hp, rfl⟩ := step_cases h <;> simp [dirUpdate_eq]

/-- Settles O45: the read follows a write, so the gate lets it through, and no cycle touches the ROM. -/
theorem romImmutability : Obligations.RomImmutability := by
  refine ⟨fun s hp hp2 a v d rx rx2 ha => ?_, fun _ _ => step_rom⟩
  rw [cycle_dout_of_read (by simp [Dir.ofLevel]), peek_of_rom ha, cycle_rom]

end Sys2Proof.Machine
end

section
/-!
SUPPORT. What each operation of the table can do, one case for each group of rows (R20).
-/

namespace Sys2Proof.Machine

/-- A row `RD_` of the opcode table: the decoded operation of a bus word with `RW` = 1 (R86). -/
def IsReadRow (i : Instr) : Prop := ∃ w : BitVec 17, w.getLsbD 16 = true ∧ i = decodeBus w

/-- An operation whose word has `RW` = 1 is a row `RD_`. -/
theorem isReadRow_of_encode {i : Instr} {w : BitVec 17} (h : encode Params.default i = .bus w)
    (hrw : w.getLsbD 16 = true) : IsReadRow i :=
  ⟨w, hrw, (decodeBus_encode h).symm⟩

/-- Which elements of R20 an operation can change, by groups of rows: a read row drives a byte, a discarded
write and `KBD_NONE` change nothing, every other row has an effect of its own. Which byte is driven or
stored is left open where no claim about the writers of an element depends on it. -/
inductive Effect (s : State) : Instr → State → Prop
  | drive {i : Instr} (hi : IsReadRow i) (v : Byte) : Effect s i (s.driveData v)
  | readKbdData (v c : Byte) : Effect s .rdKbdData ((s.setKbdStatus c).driveData v)
  | nothing (i : Instr) : Effect s i s
  | storeRam1 (x : BitVec 12) (k : Nat) (v : Byte) : Effect s (.wrRam1 x) (s.writeRam1 k v)
  | storeRam2 (x : BitVec 12) (k : Nat) (v : Byte) : Effect s (.wrRam2 x) (s.writeRam2 k v)
  | storeKbdData (v : Byte) : Effect s .wrKbdData (s.setKbdData v)
  | storeKbdStatus (v : Byte) : Effect s .wrKbdStatus (s.setKbdStatus v)
  | storeDspData (v : Byte) : Effect s .wrDspData (wrDspData v s)
  | storeDspStatus (v : Byte) : Effect s .wrDspStatus (s.setDspStatus v)
  | takeLineFeed : Effect s .kbdLf (takeRx s)
  | takeDelete (b : Byte) : Effect s .kbdDel (kbdChar b (takeRx s))
  | takeChar (b : Byte) : Effect s (.kbdChar b) (kbdChar b (takeRx s))
  | clockLow : Effect s .p0ClkLow (((s.setDelay (sampleHalfPeriod s)).setClk .low).setPhase 1#3)
  | waitLow : Effect s .p1WaitLow (s.setPhase (s.phase + 1#3))
  | direction : Effect s .p2DirUpdate ((dirUpdate (sampleRw s) s).setPhase 3#3)
  | clockHigh : Effect s .p3ClkHigh ((s.setClk .high).setPhase 4#3)
  | waitHigh : Effect s .p4WaitHigh (s.setPhase (s.phase + 1#3))
  | address : Effect s .p5AddrSample ((s.setAddr (sampleAddr s)).setPhase 6#3)
  | dispatch : Effect s .p6Dispatch ((dispatch (sampleData s) s).setPhase 7#3)
  | poll : Effect s .p7KbdPoll ((poll s).setPhase 0#3).nextCycle

/-- Every row of the table has the effect of its group. -/
theorem exec_effect {i : Instr} {s t : State} (h : exec i s = .next t) : Effect s i t := by
  cases i <;> cases h
  case rdKbdStatus | rdDspData | rdDspStatus => exact .drive (isReadRow_of_encode rfl rfl) _
  case rdRam1 | rdRam2 | rdRom
    | rdPiaUnusedD000 | rdPiaUnusedD014 | rdPiaUnusedD018 | rdPiaUnusedD020 | rdPiaUnusedD040
    | rdPiaUnusedD080 | rdPiaUnusedD100 | rdPiaUnusedD200 | rdPiaUnusedD400 | rdPiaUnusedD800
    | rdUnmapped1000 | rdUnmapped2000 | rdUnmapped4000 | rdUnmapped8000 | rdUnmappedC000
    | rdUnmappedF000 | rdUnmappedF800 | rdUnmappedFC00 | rdUnmappedFE00 =>
    exact .drive (isReadRow_of_encode rfl (by rw [BitVec.getLsbD_append]; rfl)) _
  case rdKbdData => exact .readKbdData _ _
  case wrRom | wrPiaUnusedD000 | wrPiaUnusedD014 | wrPiaUnusedD018 | wrPiaUnusedD020
    | wrPiaUnusedD040 | wrPiaUnusedD080 | wrPiaUnusedD100 | wrPiaUnusedD200 | wrPiaUnusedD400
    | wrPiaUnusedD800 | wrUnmapped1000 | wrUnmapped2000 | wrUnmapped4000 | wrUnmapped8000
    | wrUnmappedC000 | wrUnmappedF000 | wrUnmappedF800 | wrUnmappedFC00 | wrUnmappedFE00 | kbdNone =>
    exact .nothing _
  case wrRam1 x => exact .storeRam1 x _ _
  case wrRam2 x => exact .storeRam2 x _ _
  case wrKbdData => exact .storeKbdData _
  case wrKbdStatus => exact .storeKbdStatus _
  case wrDspData => exact .storeDspData _
  case wrDspStatus => exact .storeDspStatus _
  case kbdLf => exact .takeLineFeed
  case kbdDel => exact .takeDelete _
  case kbdChar b => exact .takeChar b
  case p0ClkLow => exact .clockLow
  case p1WaitLow => exact .waitLow
  case p2DirUpdate => exact .direction
  case p3ClkHigh => exact .clockHigh
  case p4WaitHigh => exact .waitHigh
  case p5AddrSample => exact .address
  case p6Dispatch => exact .dispatch
  case p7KbdPoll => exact .poll

/-- Settles O35, effect by effect: what an effect leaves alone is a field lemma of its updates. -/
theorem writersOfEachElement : Obligations.WritersOfEachElement := by
  intro i s t h
  cases exec_effect h with
  | drive hi v => exact ⟨by simp, by simp, by simp, by simp, by simp, fun _ => .inl hi, by simp⟩
  | readKbdData v c =>
    have hi : IsReadRow .rdKbdData := isReadRow_of_encode rfl rfl
    exact ⟨by simp, by simp, by simp, by simp, by simp, fun _ => .inl hi, by simp⟩
  | nothing => simp
  | storeRam1 x k v => simp
  | storeRam2 x k v => simp
  | storeKbdData v => simp
  | storeKbdStatus v => simp
  | storeDspData v => simp [wrDspData_eq]
  | storeDspStatus v => simp
  | takeLineFeed => simp [takeRx]
  | takeDelete b => simp [takeRx, kbdChar]
  | takeChar b => simp [takeRx, kbdChar]
  | clockLow => exact ⟨by simp, fun _ => ⟨0#3, rfl⟩, by simp⟩
  | waitLow => exact ⟨by simp, fun _ => ⟨1#3, rfl⟩, by simp⟩
  | direction => exact ⟨by simp [dirUpdate_eq], fun _ => ⟨2#3, rfl⟩, by simp [dirUpdate_eq]⟩
  | clockHigh => exact ⟨by simp, fun _ => ⟨3#3, rfl⟩, by simp⟩
  | waitHigh => exact ⟨by simp, fun _ => ⟨4#3, rfl⟩, by simp⟩
  | address => exact ⟨by simp, fun _ => ⟨5#3, rfl⟩, by simp⟩
  | dispatch => exact ⟨by simp, fun _ => ⟨6#3, rfl⟩, by simp⟩
  | poll => exact ⟨by simp, fun _ => ⟨7#3, rfl⟩, by simp⟩

end Sys2Proof.Machine
end

section
/-!
SUPPORT. The regions of the address map as ranges of numbers (R52, R140).
-/

namespace Sys2Proof.Machine

/-- The one address of a register's region (R5, R52); the other regions are ranges. -/
def Region.registerAddr : Region → Option Addr
  | .kbdData => some Config.kbdDataAddr
  | .kbdStatus => some Config.kbdStatusAddr
  | .dspData => some Config.dspDataAddr
  | .dspStatus => some Config.dspStatusAddr
  | .ram1 | .ram2 | .rom | .unmapped | .piaUnused => none

variable {a b : Addr}

theorem region_eq_iff_of_register {r : Region} {c : Addr} (h : r.registerAddr = some c) :
    region a = r ↔ a = c := by
  cases r <;> cases h
  all_goals
    constructor
    · unfold region
      split_ifs <;> simp_all
    · rintro rfl
      rfl

/-- No other address is a register's. -/
theorem region_ne_of_register {r : Region} {c : Addr} (hc : r.registerAddr = some c)
    (hb : region b = r) (h : b ≠ a) : region a ≠ r := fun ha =>
  h <| ((region_eq_iff_of_register hc).mp hb).trans ((region_eq_iff_of_register hc).mp ha).symm

theorem region_eq_unmapped_iff : region a = .unmapped ↔
    0x1000 ≤ a.toNat ∧ a.toNat < 0xD000 ∨ 0xF000 ≤ a.toNat ∧ a.toNat < 0xFF00 := by
  unfold region
  split_ifs <;> simp_all [topSlice_eq_iff]
  all_goals omega

theorem region_eq_piaUnused_iff : region a = .piaUnused ↔
    0xD000 ≤ a.toNat ∧ a.toNat < 0xD010 ∨ 0xD014 ≤ a.toNat ∧ a.toNat < 0xE000 := by
  unfold region
  simp only [Config.kbdDataAddr, Config.kbdStatusAddr, Config.dspDataAddr, Config.dspStatusAddr,
    ← BitVec.toNat_inj (x := a)]
  split_ifs <;> simp_all [topSlice_eq_iff]
  all_goals omega

/-- Settles O7, range by range. -/
theorem addressRegions : Obligations.AddressRegions := by
  intro a
  split_ifs with h0 h1 h2 h3 h4 h5 h6 h7 h8 h9
  · exact region_eq_ram1_iff.mpr (by omega)
  · exact region_eq_unmapped_iff.mpr (by omega)
  · exact region_eq_piaUnused_iff.mpr (by omega)
  · exact (region_eq_iff_of_register (r := .kbdData) rfl).mpr (BitVec.eq_of_toNat_eq h3)
  · exact (region_eq_iff_of_register (r := .kbdStatus) rfl).mpr (BitVec.eq_of_toNat_eq h4)
  · exact (region_eq_iff_of_register (r := .dspData) rfl).mpr (BitVec.eq_of_toNat_eq h5)
  · exact (region_eq_iff_of_register (r := .dspStatus) rfl).mpr (BitVec.eq_of_toNat_eq h6)
  · exact region_eq_piaUnused_iff.mpr (by omega)
  · exact region_eq_ram2_iff.mpr (by omega)
  · exact region_eq_unmapped_iff.mpr (by omega)
  · exact region_eq_rom_iff.mpr (by omega)

end Sys2Proof.Machine
end

section
/-!
SUPPORT. The byte a location holds, by the ranges of the address map (R52, R143), and after a write.
-/

namespace Sys2Proof.Machine

variable {a b : Addr} {s : State} {v : Byte}

theorem peek_of_unmapped (h : region a = .unmapped) : peek a s = 0x00#8 := by
  rw [peek, memRead, h]
  rfl

theorem peek_of_piaUnused (h : region a = .piaUnused) : peek a s = 0x00#8 := by
  rw [peek, memRead, h]
  rfl

/-- The column "read cycle" of R52. -/
theorem peek_eq_map (a : Addr) (s : State) : peek a s =
    if a.toNat ≤ 0x0FFF then s.ram1.read a.toNat
    else if a.toNat ≤ 0xD00F then 0x00#8
    else if a.toNat = 0xD010 then s.kbdData
    else if a.toNat = 0xD011 then s.kbdStatus
    else if a.toNat = 0xD012 then s.dspData
    else if a.toNat = 0xD013 then s.dspStatus
    else if a.toNat ≤ 0xDFFF then 0x00#8
    else if a.toNat ≤ 0xEFFF then s.ram2.read (a.toNat - 0xE000)
    else if a.toNat ≤ 0xFEFF then 0x00#8
    else s.rom.read (a.toNat - 0xFF00) := by
  split_ifs with h0 h1 h2 h3 h4 h5 h6 h7 h8
  · exact peek_of_ram1 (by omega)
  · by_cases hd : a.toNat < 0xD000
    · exact peek_of_unmapped (region_eq_unmapped_iff.mpr (by omega))
    · exact peek_of_piaUnused (region_eq_piaUnused_iff.mpr (by omega))
  · obtain rfl : a = 0xD010#16 := BitVec.eq_of_toNat_eq h2
    exact peek_kbdDataAddr
  · obtain rfl : a = 0xD011#16 := BitVec.eq_of_toNat_eq h3
    exact peek_kbdStatusAddr
  · obtain rfl : a = 0xD012#16 := BitVec.eq_of_toNat_eq h4
    exact peek_dspDataAddr
  · obtain rfl : a = 0xD013#16 := BitVec.eq_of_toNat_eq h5
    exact peek_dspStatusAddr
  · exact peek_of_piaUnused (region_eq_piaUnused_iff.mpr (by omega))
  · exact peek_of_ram2 (by omega)
  · exact peek_of_unmapped (region_eq_unmapped_iff.mpr (by omega))
  · exact peek_of_rom (by omega)

/-- Neither the snapshot nor the phase is a location. -/
@[simp] theorem peek_snapshot (a : Addr) (s : State) : peek a s.snapshot = peek a s := by
  rw [peek, peek, memRead, memRead]
  cases region a <;> rfl

@[simp] theorem peek_setPhase (a : Addr) (s : State) (n : BitVec 3) :
    peek a (s.setPhase n) = peek a s := by
  rw [peek, peek, memRead, memRead]
  cases region a <;> rfl

/-- What a location of the region holds after a write of `v`, where it held `old` (R142, R183). -/
def Region.afterWrite (v old : Byte) : Region → Byte
  | .ram1 | .ram2 | .kbdData | .kbdStatus | .dspStatus => v
  | .dspData => clearFlag v
  | .rom | .unmapped | .piaUnused => old

/-- A read after a write of the same location. -/
theorem peek_memWrite_self (a : Addr) (v : Byte) (s : State) :
    peek a (memWrite a v s) = (region a).afterWrite v (peek a s) := by
  rw [peek, peek, memRead, memRead, memWrite_eq]
  cases region a
  case ram1 | ram2 => exact Memory.read_write.trans (if_pos rfl)
  all_goals rfl

/-- A write reaches one location only: two addresses of one bank have different indexes, and a register
has one address. -/
theorem peek_memWrite_of_ne (h : b ≠ a) : peek b (memWrite a v s) = peek b s := by
  rw [peek, peek, memRead, memRead, memWrite_eq]
  cases hb : region b
  case ram1 =>
    change Memory.read (if _ then _ else _) _ = _
    split
    · exact Memory.read_write.trans (if_neg (mt BitVec.eq_of_toNat_eq h))
    · rfl
  case ram2 =>
    change Memory.read (if _ then _ else _) _ = _
    split
    · refine Memory.read_write.trans (if_neg fun hk => h ?_)
      exact sub_left_injective (BitVec.eq_of_toNat_eq hk)
    · rfl
  case kbdData | kbdStatus | dspData | dspStatus => exact if_neg (region_ne_of_register rfl hb h)
  case rom | unmapped | piaUnused => rfl

end Sys2Proof.Machine
end

section
/-!
SUPPORT. The step of P6 with the gate open, in each direction (R126), against the columns of R52.
-/

namespace Sys2Proof.Machine

variable {a : Addr} {d : Byte} {s : State}

theorem step_of_phase_six (h : s.phase = 6#3) :
    step s = .next ((dispatch (sampleData s) s).setPhase 7#3) := by
  rw [step, h]
  rfl

theorem dispatch_of_read (hgate : changed s = true) (hdir : s.dir = .cpuReads) :
    dispatch d s = (driveResult (memRead s.addr s)).snapshot := by
  rw [dispatch_eq, if_pos hgate, access_of_read hdir]

theorem dispatch_of_write (hgate : changed s = true) (hdir : s.dir = .cpuWrites) :
    dispatch d s = (memWrite s.addr d s).snapshot := by
  rw [dispatch_eq, if_pos hgate, access_of_write hdir]

/-- Settles O33: a read access drives the byte its location holds, which the map gives. -/
theorem dispatchedReadFollowsMap : Obligations.DispatchedReadFollowsMap := by
  intro s hphase hgate hdir
  have hkbd : region s.addr = .kbdData ↔ s.addr.toNat = 0xD010 :=
    (region_eq_iff_of_register rfl).trans BitVec.toNat_inj.symm
  rw [step_of_phase_six hphase, dispatch_of_read hgate hdir, readAccess_eq, ← peek_eq_map, ← hdir]
  simp only [hkbd]
  rfl

/-- The column "write cycle" of R52. -/
theorem afterWrite_eq_map (a : Addr) (v old : Byte) : (region a).afterWrite v old =
    if a.toNat ≤ 0x0FFF then v
    else if a.toNat ≤ 0xD00F then old
    else if a.toNat ≤ 0xD011 then v
    else if a.toNat = 0xD012 then v &&& 0x7F#8
    else if a.toNat = 0xD013 then v
    else if a.toNat ≤ 0xDFFF then old
    else if a.toNat ≤ 0xEFFF then v
    else old := by
  rw [addressRegions a]
  split_ifs
  -- two ranges that do not meet, and then those that do
  any_goals omega
  all_goals rfl

/-- Settles O34: the write reaches the location of the sampled address only, and `TX` grows there only if
it is 0xD012. -/
theorem dispatchedWriteFollowsMap : Obligations.DispatchedWriteFollowsMap := by
  intro s hphase hgate hdir
  have hdsp : region s.addr = .dspData ↔ s.addr.toNat = 0xD012 :=
    (region_eq_iff_of_register rfl).trans BitVec.toNat_inj.symm
  refine ⟨_, step_of_phase_six hphase, ?_⟩
  rw [dispatch_of_write hgate hdir]
  refine ⟨fun b hb => ?_, ?_, ?_, ?_⟩
  · rw [peek_setPhase, peek_snapshot, peek_memWrite_of_ne hb]
  · rw [peek_setPhase, peek_snapshot, peek_memWrite_self, afterWrite_eq_map]
  · simp [memWrite_eq, hdsp]
  · rw [memWrite_eq, ← hdir]
    rfl

end Sys2Proof.Machine
end

section
/-!
SUPPORT. Whole cycles: what an open gate lets through (R100, R126), and the pins after a cycle (R39 (a)).
-/

namespace Sys2Proof.Machine

variable {s : State} {hp : Duration} {rw : Level} {a : Addr} {d : Byte} {rx : Option Byte}

/-- The gate of a cycle compares the sampled pair with the snapshot (R126). -/
theorem changed_setAddr_pulse : changed ((pulse hp rw s).setAddr a) = true ↔
    s.prevValid = false ∨ s.prevAddr ≠ a ∨ s.prevDir ≠ Dir.ofLevel rw := by
  rw [changed_eq_true, pulse_eq]
  exact or_congr_right (or_congr ne_comm ne_comm)

@[simp] theorem dir_setAddr_pulse : ((pulse hp rw s).setAddr a).dir = Dir.ofLevel rw := by
  simp [pulse_eq]

@[simp] theorem kbdPoll_pinMode : (kbdPoll rx s).pinMode = s.pinMode := by rw [kbdPoll_eq]
@[simp] theorem kbdPoll_dir : (kbdPoll rx s).dir = s.dir := by rw [kbdPoll_eq]

/-- No ingestion case touches a bank of memory (R192 to R195). -/
theorem peek_kbdPoll_of_ram (ha : region a = .ram1 ∨ region a = .ram2) :
    peek a (kbdPoll rx s) = peek a s := by
  rw [kbdPoll_eq, peek, peek, memRead, memRead]
  rcases ha with h | h <;> rw [h] <;> rfl

@[simp] theorem cycle_dir : (cycle hp rw a d rx s).dir = Dir.ofLevel rw := by
  simp [cycle, pulse_eq]

/-- A cycle keeps the pins at the stored direction (R39 (a)). -/
theorem cycle_pinMode (h : s.pinMode = PinMode.ofDir s.dir) :
    (cycle hp rw a d rx s).pinMode = PinMode.ofDir (Dir.ofLevel rw) := by
  simp only [cycle, pulse_eq, kbdPoll_pinMode, dispatch_pinMode, State.setAddr_pinMode]
  exact ite_eq_right_iff.mpr fun hd => h.trans (congrArg _ hd.symm)

/-- After a write cycle that the gate lets through, a RAM location holds the byte (R160, R161). -/
theorem peek_cycle_of_ram_write (ha : region a = .ram1 ∨ region a = .ram2)
    (hgate : s.prevValid = false ∨ s.prevAddr ≠ a ∨ s.prevDir ≠ .cpuWrites) :
    peek a (cycle hp .low a d rx s) = d := by
  simp only [cycle, peek_kbdPoll_of_ram ha]
  rw [dispatch_of_write (changed_setAddr_pulse.mpr hgate) dir_setAddr_pulse, peek_snapshot]
  refine (peek_memWrite_self a d _).trans ?_
  rcases ha with h | h <;> rw [h] <;> rfl

/-- Settles O44: the read follows a write, so the gate lets it through, and it finds the byte. -/
theorem ramRoundTrip : Obligations.RamRoundTrip := by
  intro s hp hp2 a v d rx rx2 hpins ha hgate
  have hram : region a = .ram1 ∨ region a = .ram2 :=
    ha.imp (fun h => region_eq_ram1_iff.mpr (by omega)) fun h => region_eq_ram2_iff.mpr (by omega)
  have hdout : (cycle hp2 .high a d rx2 (cycle hp .low a v rx s)).dout = v := by
    rw [cycle_dout_of_read (by simp [Dir.ofLevel]), peek_cycle_of_ram_write hram hgate]
  refine ⟨hdout, ?_⟩
  have hpinsWrite : (cycle hp .low a v rx s).pinMode = PinMode.ofDir (cycle hp .low a v rx s).dir := by
    rw [cycle_pinMode hpins, cycle_dir]
  rw [drivenData, cycle_pinMode hpinsWrite, hdout]
  rfl

theorem setFlag_clearFlag (v : Byte) : setFlag (clearFlag v) = setFlag v := by
  apply BitVec.eq_of_getLsbD_eq
  intro k _
  by_cases h : k = 7 <;> simp [h]

/-- A byte with no special code is stored (R195). -/
theorem kbdPoll_of_char {b : Byte} (hlf : b ≠ s.params.kbdLfByte) (hdel : b ≠ s.params.kbdDelByte) :
    kbdPoll (some b) s = kbdChar b s := by
  rw [kbdPoll, if_neg hlf, if_neg hdel]

/-- Settles O46: the dispatch drives the old character and clears the flag, then the poll stores the new
one and sets the flag again. -/
theorem ingestionFollowsDispatch : Obligations.IngestionFollowsDispatch := by
  intro s hp d b hgate hlf hdel
  refine ⟨cycle_dout_of_read hgate, ?_⟩
  have hcycle : cycle hp .high 0xD010#16 d (some b) s = kbdChar b
      (driveResult (memRead 0xD010#16 ((pulse hp .high s).setAddr 0xD010#16))).snapshot := by
    rw [cycle, kbdPoll_of_char (by simpa [pulse_eq] using hlf) (by simpa [pulse_eq] using hdel),
      dispatch_of_read (changed_setAddr_pulse.mpr hgate) dir_setAddr_pulse]
    rfl
  rw [hcycle]
  refine ⟨rfl, ?_⟩
  rw [pulse_eq]
  exact setFlag_clearFlag s.kbdStatus

end Sys2Proof.Machine
end

section
/-!
SUPPORT. The two directions of the encoding (R86 to R89): what the decoder of the receive words answers for a
word `{AVAIL, BYTE}`, and the encoder on a decoded word.
-/

namespace Sys2Proof

variable {p : Params} {i : Instr}

/-- A receive word is a flag and a byte (R83). -/
theorem exists_eq_flag_append (w : BitVec 9) : ∃ b : Byte, w = 0#1 ++ b ∨ w = 1#1 ++ b := by
  refine ⟨w.extractLsb 7 0, (BitVec.eq_zero_or_eq_one (w.extractLsb 8 8)).imp ?_ ?_⟩
  all_goals
    intro h
    rw [Words.slice_eq_iff] at h
    apply BitVec.eq_of_toNat_eq
    simp only [Words.toNat_append_add, Words.toNat_slice, BitVec.toNat_ofNat] at h ⊢
    omega

@[simp] theorem decodeRx_noByte (p : Params) (b : Byte) : decodeRx p (0#1 ++ b) = .kbdNone := by
  have hflag : ((0#1 : BitVec 1) ++ b).getLsbD 8 = false := by rw [BitVec.getLsbD_append]; rfl
  rw [decodeRx, if_pos hflag]

/-- A byte takes the first row whose condition it meets (R193 to R195). -/
theorem decodeRx_byte (p : Params) (b : Byte) : decodeRx p (1#1 ++ b) =
    if b = p.kbdLfByte then .kbdLf else if b = p.kbdDelByte then .kbdDel else .kbdChar b := by
  have hflag : ((1#1 : BitVec 1) ++ b).getLsbD 8 = true := by rw [BitVec.getLsbD_append]; rfl
  have hbyte : ((1#1 : BitVec 1) ++ b).extractLsb 7 0 = b := BitVec.extractLsb'_append_eq_right
  simp [decodeRx, hflag, hbyte]

/-- The decoder inverts the encoder on the receive words of the rows whose condition holds. -/
theorem decodeRx_encode {w : BitVec 9} (hwf : i.wf p = true) (h : encode p i = .rx w) :
    decodeRx p w = i := by
  cases i <;> cases h
  case kbdNone => rfl
  case kbdLf => rw [decodeRx_byte, if_pos rfl]
  case kbdDel =>
    have hdel : p.kbdDelByte ≠ p.kbdLfByte := bne_iff_ne.mp hwf
    rw [decodeRx_byte, if_neg hdel, if_pos rfl]
  case kbdChar b =>
    obtain ⟨hlf, hdel⟩ := Bool.and_eq_true_iff.mp hwf
    rw [decodeRx_byte, if_neg (bne_iff_ne.mp hlf), if_neg (bne_iff_ne.mp hdel)]

theorem decodeSeq_encode {w : BitVec 3} (h : encode p i = .seq w) : decodeSeq w = i := by
  cases i <;> cases h <;> rfl

/-- Settles O1, format by format. -/
theorem decodeEncodeRoundTrip : Obligations.DecodeEncodeRoundTrip := by
  intro p i hwf
  cases h : encode p i with
  | bus w => exact decodeBus_encode h
  | rx w => exact decodeRx_encode hwf h
  | seq w => exact decodeSeq_encode h

section

variable {w : BitVec 17} {a : Addr}

/-- A bus word as the number of `{RW, A}` (R81). -/
theorem toNat_eq_rw_addr (w : BitVec 17) :
    w.toNat = (w.getLsbD 16).toNat * 2 ^ 16 + (w.extractLsb 15 0).toNat := by
  have hbit : (w.getLsbD 16).toNat = w.toNat / 2 ^ 16 := by
    rw [BitVec.getLsbD, Nat.toNat_testBit, Nat.mod_eq_of_lt (by omega)]
  rw [hbit, Words.toNat_slice]
  omega

/-- A row's fixed bits and the low slice of an address of its block: the bits above the block number `c`,
then the address. -/
theorem toNat_append_lowSlice {m k b : Nat} {hi : BitVec m} {c : BitVec (15 - (k + 1) + 1)}
    (ha : a.extractLsb 15 (k + 1) = c) (hhi : hi.toNat = b * 2 ^ (15 - k) + c.toNat)
    (hk : k ≤ 15 := by decide) : (hi ++ a.extractLsb k 0).toNat = b * 2 ^ 16 + a.toNat := by
  have hblock := (topSlice_eq_iff _ _ _).mp ha
  have hhigh : a.toNat / 2 ^ (k + 1) = c.toNat := (Nat.div_eq_iff (by positivity)).mpr (by omega)
  have hpow : 2 ^ (15 - k) * 2 ^ (k + 1) = 2 ^ 16 := by
    rw [← pow_add, show 15 - k + (k + 1) = 16 by omega]
  rw [Words.toNat_append_add, Words.toNat_slice, Nat.sub_zero, hhi, ← hhigh, Nat.add_mul,
    Nat.mul_assoc, hpow, pow_zero, Nat.div_one, Nat.add_assoc, Nat.div_add_mod']

/-- A row's fixed bits of the address and its low slice are the address. -/
theorem toNat_block_append_lowSlice {m k : Nat} {hi : BitVec m} {c : BitVec (15 - (k + 1) + 1)}
    (ha : a.extractLsb 15 (k + 1) = c) (hhi : hi.toNat = c.toNat) (hk : k ≤ 15 := by decide) :
    (hi ++ a.extractLsb k 0).toNat = a.toNat := by
  rw [toNat_append_lowSlice (b := 0) ha (by rw [hhi, Nat.zero_mul, Nat.zero_add]) hk, Nat.zero_mul,
    Nat.zero_add]

/-- The encoder inverts the decoder on every BUS17 word (R87, R90), test by test of the decoder: the three
banks, the four registers, and the blocks, of which the last is what the other tests leave. -/
theorem encode_decodeBus (p : Params) (w : BitVec 17) : encode p (decodeBus w) = .bus w := by
  have hw := toNat_eq_rw_addr w
  unfold decodeBus
  generalize w.getLsbD 16 = rw, w.extractLsb 15 0 = a at hw
  dsimp only
  -- each `swap` leaves the case of a block for the end, where all blocks are one argument
  iterate 3
    refine Words.ite_elim (P := (encode p · = .bus w)) (fun h => ?_) fun _ => ?_
    swap
  iterate 4
    refine Words.ite_elim (P := (encode p · = .bus w)) (fun h => ?_) fun _ => ?_
    · subst h
      cases rw <;> exact congrArg Word.bus (BitVec.eq_of_toNat_eq hw.symm)
  iterate 18
    refine Words.ite_elim (P := (encode p · = .bus w)) (fun h => ?_) fun _ => ?_
    swap
  have h : a.extractLsb 15 8 = 0xFE#8 := by
    simp [topSlice_eq_iff, ← BitVec.toNat_inj (x := a)] at *
    omega
  all_goals
    cases rw <;>
      exact congrArg Word.bus (BitVec.eq_of_toNat_eq ((toNat_append_lowSlice h rfl).trans hw.symm))

/-- No condition restricts a BUS17 row (R90). -/
theorem wf_of_encode_bus (h : encode p i = .bus w) : i.wf p = true := by
  cases i
  case kbdDel | kbdChar => cases h
  all_goals rfl

end

/-- Settles O2: the encoder inverts the decoder, and whatever encodes to a bus word is well-formed. -/
theorem encodeDecodeBusWord : Obligations.EncodeDecodeBusWord := fun p w =>
  ⟨encode_decodeBus p w, wf_of_encode_bus (encode_decodeBus p w)⟩

end Sys2Proof
end

section
/-!
SUPPORT. The decoder against the rows of the opcode table (R87 to R89, R91).
-/

namespace Sys2Proof

open Laws.EncodingFitsRow in
/-- Every operation's word fits the row of its mnemonic; the constructors in the order of `Instr`. -/
theorem encode_fits_row (i : Instr) : Laws.EncodingFitsRow.Statement i :=
  i.casesOn (motive := Laws.EncodingFitsRow.Statement)
    rdRam1 wrRam1 rdRam2 wrRam2 rdRom wrRom rdKbdData wrKbdData rdKbdStatus wrKbdStatus rdDspData
    wrDspData rdDspStatus wrDspStatus rdPiaUnusedD000 wrPiaUnusedD000 rdPiaUnusedD014
    wrPiaUnusedD014 rdPiaUnusedD018 wrPiaUnusedD018 rdPiaUnusedD020 wrPiaUnusedD020
    rdPiaUnusedD040 wrPiaUnusedD040 rdPiaUnusedD080 wrPiaUnusedD080 rdPiaUnusedD100
    wrPiaUnusedD100 rdPiaUnusedD200 wrPiaUnusedD200 rdPiaUnusedD400 wrPiaUnusedD400
    rdPiaUnusedD800 wrPiaUnusedD800 rdUnmapped1000 wrUnmapped1000 rdUnmapped2000 wrUnmapped2000
    rdUnmapped4000 wrUnmapped4000 rdUnmapped8000 wrUnmapped8000 rdUnmappedC000 wrUnmappedC000
    rdUnmappedF000 wrUnmappedF000 rdUnmappedF800 wrUnmappedF800 rdUnmappedFC00 wrUnmappedFC00
    rdUnmappedFE00 wrUnmappedFE00 kbdNone kbdLf kbdDel kbdChar p0ClkLow p1WaitLow p2DirUpdate
    p3ClkHigh p4WaitHigh p5AddrSample p6Dispatch p7KbdPoll

theorem exists_busRow_of_encode {p : Params} {i : Instr} {w : BitVec 17} (h : encode p i = .bus w) :
    ∃ r ∈ busTable, r.mnemonic = i.mnemonic ∧ r.fits w = true := by
  have hfits := encode_fits_row i p
  rwa [h] at hfits

/-- If at most one element of a list passes a test, the filter is the element that does. -/
theorem filter_eq_singleton {α : Type*} {f : α → Bool} {l : List α}
    (hl : l.Pairwise fun x y => f x = true → f y = false) {x : α} (hx : x ∈ l) (hf : f x = true) :
    l.filter f = [x] := by
  obtain ⟨before, after, rfl⟩ := List.append_of_mem hx
  obtain ⟨-, htail, hbefore⟩ := List.pairwise_append.mp hl
  have hnone : before.filter f = [] := List.filter_eq_nil_iff.mpr fun y hy hfy => by
    simpa [hf] using hbefore y hy x (by simp) hfy
  have hrest : after.filter f = [] := List.filter_eq_nil_iff.mpr fun y hy => by
    simp [(List.pairwise_cons.mp htail).1 y hy hf]
  rw [List.filter_append, List.filter_cons_of_pos hf, hnone, hrest, List.nil_append]

/-- Two different rows differ in a bit that both fix (R87). -/
theorem busTable_pairwise_differ :
    busTable.Pairwise fun r q => r.pattern &&& q.mask ≠ q.pattern &&& r.mask := by decide

/-- No word fits two rows (R87). -/
theorem busTable_pairwise_disjoint (w : BitVec 17) :
    busTable.Pairwise fun r q => r.fits w = true → q.fits w = false := by
  refine busTable_pairwise_differ.imp fun {r q} hne hr => Bool.eq_false_iff.mpr fun hq => hne ?_
  rw [← eq_of_beq hr, ← eq_of_beq hq, BitVec.and_assoc, BitVec.and_assoc, BitVec.and_comm r.mask]

/-- Settles O3: the decoded operation's row is fitted, and no other row is. -/
theorem eachBusWordFitsOneRow : Obligations.EachBusWordFitsOneRow := by
  refine ⟨rfl, fun w => ?_⟩
  obtain ⟨r, hmem, hname, hfits⟩ :=
    exists_busRow_of_encode (encode_decodeBus Params.default w)
  exact ⟨r, filter_eq_singleton (busTable_pairwise_disjoint w) hmem hfits, hname⟩

/-- A row whose mask is the flag is fitted by the flag alone (R88). -/
theorem fits_flagRow (name : String) (flag c : BitVec 1) (b : Byte) :
    RxRow.fits ⟨name, flag ++ 0#8, 0x100#9⟩ (c ++ b) = decide (c = flag) := by
  have hmask : (c ++ b) &&& 0x100#9 = c ++ 0#8 := Words.append_and_mask c b
  rw [RxRow.fits, hmask]
  exact decide_eq_decide.mpr (BitVec.append_left_inj 0#8)

/-- A row whose mask is the whole word is fitted by its own byte (R88). -/
theorem fits_byteRow (name : String) (b c : Byte) :
    RxRow.fits ⟨name, 1#1 ++ c, 0x1FF#9⟩ (1#1 ++ b) = decide (b = c) := by
  have hmask : (1#1 ++ b) &&& 0x1FF#9 = 1#1 ++ b := BitVec.and_allOnes
  rw [RxRow.fits, hmask]
  exact decide_eq_decide.mpr (BitVec.append_right_inj 1#1)

/-- Settles O4: the fits of the rows are the tests of the decoder, in the same order. -/
theorem receiveWordTakesFirstFittingRow : Obligations.ReceiveWordTakesFirstFittingRow := by
  intro p w
  obtain ⟨b, rfl | rfl⟩ := exists_eq_flag_append w
  · have hnone : RxRow.fits ⟨"KBD_NONE", 0x000#9, 0x100#9⟩ (0#1 ++ b) = true := fits_flagRow _ 0#1 _ b
    rw [decodeRx_noByte, rxTable, List.find?_cons, hnone]
    rfl
  · have hnone : RxRow.fits ⟨"KBD_NONE", 0x000#9, 0x100#9⟩ (1#1 ++ b) = false := fits_flagRow _ 0#1 _ b
    have hchar : RxRow.fits ⟨"KBD_CHAR", 0x100#9, 0x100#9⟩ (1#1 ++ b) = true := fits_flagRow _ 1#1 _ b
    simp only [decodeRx_byte, rxTable, List.find?_cons, hnone, hchar, fits_byteRow]
    by_cases hlf : b = p.kbdLfByte
    · rw [decide_eq_true hlf, if_pos hlf]
      rfl
    · rw [decide_eq_false hlf, if_neg hlf]
      by_cases hdel : b = p.kbdDelByte
      · rw [decide_eq_true hdel, if_pos hdel]
        rfl
      · rw [decide_eq_false hdel, if_neg hdel]
        rfl

theorem phase_cases (w : BitVec 3) : w = 0#3 ∨ w = 1#3 ∨ w = 2#3 ∨ w = 3#3 ∨ w = 4#3 ∨ w = 5#3 ∨
    w = 6#3 ∨ w = 7#3 := by
  revert w
  decide

/-- Settles O5, phase by phase. -/
theorem phaseNumberTakesItsRow : Obligations.PhaseNumberTakesItsRow := by
  intro p w
  obtain rfl | rfl | rfl | rfl | rfl | rfl | rfl | rfl := phase_cases w <;>
    exact ⟨rfl, _, rfl, rfl⟩

/-- Settles O6: the decoder evaluated on the twelve words. -/
theorem knownWordsDecode : Obligations.KnownWordsDecode := by
  unfold Obligations.KnownWordsDecode
  decide

end Sys2Proof
end

section
/-!
SUPPORT. A step runs the operation its word decodes to: the phase number (R101), the bus word of P6 (R126)
and the receive word of P7 (R200).
-/

namespace Sys2Proof.Machine

variable {s : State} {a : Addr} {read write : Instr}

/-- Settles O8: it is how `step` is defined. -/
theorem stepRunsPhaseOperation : Obligations.StepRunsPhaseOperation := by
  rintro s _ rfl
  rfl

theorem region_of_unmapped_block {lo : Nat} {c : BitVec (15 - lo + 1)} (h : a.extractLsb 15 lo = c)
    (hc : 0x1000 ≤ c.toNat * 2 ^ lo ∧ c.toNat * 2 ^ lo + 2 ^ lo ≤ 0xD000 ∨
      0xF000 ≤ c.toNat * 2 ^ lo ∧ c.toNat * 2 ^ lo + 2 ^ lo ≤ 0xFF00) : region a = .unmapped := by
  rw [topSlice_eq_iff] at h
  exact region_eq_unmapped_iff.mpr (by omega)

theorem region_of_unused_block {lo : Nat} {c : BitVec (15 - lo + 1)} (h : a.extractLsb 15 lo = c)
    (hc : 0xD000 ≤ c.toNat * 2 ^ lo ∧ c.toNat * 2 ^ lo + 2 ^ lo ≤ 0xD010 ∨
      0xD014 ≤ c.toNat * 2 ^ lo ∧ c.toNat * 2 ^ lo + 2 ^ lo ≤ 0xE000) : region a = .piaUnused := by
  rw [topSlice_eq_iff] at h
  exact region_eq_piaUnused_iff.mpr (by omega)

/-- The operation does what the dispatched access does, with the byte sampled now (R126). -/
def RunsAccess (s : State) (i : Instr) : Prop := exec i s = .next (access (sampleData s) s)

theorem busWord_addr (s : State) : (busWord s).extractLsb 15 0 = s.addr :=
  BitVec.extractLsb'_append_eq_right

theorem busWord_rw (s : State) : (busWord s).getLsbD 16 = decide (s.dir = .cpuReads) := by
  rw [busWord, BitVec.getLsbD_append]
  cases s.dir <;> rfl

/-- The bit `RW` chooses the row as the stored direction chooses the access (R86, R126). -/
theorem runsAccess_byRw (hread : exec read s = .next (driveResult (memRead s.addr s)))
    (hwrite : exec write s = .next (memWrite s.addr (sampleData s) s)) :
    RunsAccess s (byRw (decide (s.dir = .cpuReads)) read write) := by
  cases h : s.dir
  · exact hwrite.trans (congrArg _ (access_of_write h).symm)
  · exact hread.trans (congrArg _ (access_of_read h).symm)

/-- The rows of a bank run the handlers of its region at the address their word holds. -/
theorem runsAccess_of_bank {rd : Addr → State → Byte × State} {wr : Addr → Byte → State → State}
    {b : Addr} (hb : b.toNat = s.addr.toNat) (hrd : memRead s.addr s = rd s.addr s)
    (hwr : memWrite s.addr (sampleData s) s = wr s.addr (sampleData s) s)
    (hread : exec read s = readCycle (rd b) s) (hwrite : exec write s = writeCycle (wr b) s) :
    RunsAccess s (byRw (decide (s.dir = .cpuReads)) read write) := by
  obtain rfl : b = s.addr := BitVec.eq_of_toNat_eq hb
  apply runsAccess_byRw
  · rw [hread, hrd, readCycle]
  · rw [hwrite, hwr, writeCycle]

/-- The rows of a block without a location drive 0x00 and drop the byte (R163, R167, R190, R191). -/
theorem runsAccess_of_noLocation (h : region s.addr = .unmapped ∨ region s.addr = .piaUnused)
    (hread : exec read s = .next (s.driveData 0x00#8)) (hwrite : exec write s = .next s) :
    RunsAccess s (byRw (decide (s.dir = .cpuReads)) read write) := by
  apply runsAccess_byRw
  · rw [hread, memRead]
    rcases h with h | h <;> rw [h] <;> rfl
  · rw [hwrite, memWrite]
    rcases h with h | h <;> rw [h] <;> rfl

/-- The routing by region is the decoding by rows (R87, R142, R143), test by test of the decoder. -/
theorem runsAccess_decodeBus (s : State) : RunsAccess s (decodeBus (busWord s)) := by
  simp only [decodeBus, busWord_addr, busWord_rw]
  refine Words.ite_elim (fun h => ?_) fun _ => ?_
  · have hregion : region s.addr = .ram1 := region_eq_ram1_iff.mpr ((topSlice_eq_iff _ _ _).mp h).2
    exact runsAccess_of_bank (rd := rdRam1) (wr := wrRam1) (toNat_block_append_lowSlice h rfl)
      (by rw [memRead, hregion]) (by rw [memWrite, hregion]) rfl rfl
  refine Words.ite_elim (fun h => ?_) fun _ => ?_
  · have hregion : region s.addr = .ram2 := region_eq_ram2_iff.mpr ((topSlice_eq_iff _ _ _).mp h)
    exact runsAccess_of_bank (rd := rdRam2) (wr := wrRam2) (toNat_block_append_lowSlice h rfl)
      (by rw [memRead, hregion]) (by rw [memWrite, hregion]) rfl rfl
  refine Words.ite_elim (fun h => ?_) fun _ => ?_
  · have hregion : region s.addr = .rom := region_eq_rom_iff.mpr ((topSlice_eq_iff _ _ _).mp h).1
    exact runsAccess_of_bank (rd := rdRom) (wr := wrRom) (toNat_block_append_lowSlice h rfl)
      (by rw [memRead, hregion]) (by rw [memWrite, hregion]) rfl rfl
  iterate 4
    refine Words.ite_elim (fun h => ?_) fun _ => ?_
    · apply runsAccess_byRw <;> rw [h] <;> rfl
  iterate 10
    refine Words.ite_elim (fun h => ?_) fun _ => ?_
    · exact runsAccess_of_noLocation (.inr (region_of_unused_block h (by decide))) rfl rfl
  iterate 8
    refine Words.ite_elim (fun h => ?_) fun _ => ?_
    · exact runsAccess_of_noLocation (.inl (region_of_unmapped_block h (by decide))) rfl rfl
  have hregion : region s.addr = .unmapped := by
    rw [region_eq_unmapped_iff]
    simp [topSlice_eq_iff, ← BitVec.toNat_inj (x := s.addr)] at *
    omega
  exact runsAccess_of_noLocation (.inl hregion) rfl rfl

/-- Settles O9: the decoded operation leaves the state of the access, and P6 adds the snapshot. -/
theorem dispatchRunsDecodedBusOperation : Obligations.DispatchRunsDecodedBusOperation := by
  intro s hphase hgate
  refine ⟨access (sampleData s) s, runsAccess_decodeBus s, ?_⟩
  have haddr : (access (sampleData s) s).addr = s.addr := by rw [access_eq]
  have hdir : (access (sampleData s) s).dir = s.dir := by rw [access_eq]
  rw [step_of_phase_six hphase, dispatch_eq, if_pos hgate, ← haddr, ← hdir]
  rfl

theorem takeRx_of_none (h : rxHead s = none) : takeRx s = s := by
  have htail : s.rx.tail = s.rx := by rw [List.head?_eq_none_iff.mp h, List.tail_nil]
  rw [takeRx, htail]
  rfl

/-- The row a receive word selects does what the poll's own tests choose (R88, R200). -/
theorem exec_decodeRx_rxWord (s : State) :
    exec (decodeRx s.params (rxWord s)) s = .next (kbdPoll (rxHead s) (takeRx s)) := by
  rw [rxWord]
  cases h : rxHead s with
  | none =>
    rw [takeRx_of_none h]
    rfl
  | some b =>
    have hparams : (takeRx s).params = s.params := rfl
    rw [rxWordOf, decodeRx_byte, kbdPoll, hparams]
    split_ifs <;> rfl

theorem step_of_phase_seven (h : s.phase = 7#3) :
    step s = .next ((poll s).setPhase 0#3).nextCycle := by
  rw [step, h]
  rfl

/-- Settles O10: the decoded operation leaves the state of the poll, and P7 goes on to the next cycle. -/
theorem pollRunsDecodedReceiveOperation : Obligations.PollRunsDecodedReceiveOperation := by
  intro s hphase
  refine ⟨poll s, exec_decodeRx_rxWord (arrive s), ?_⟩
  rw [step_of_phase_seven hphase, poll_frame]
  rfl

end Sys2Proof.Machine
end

section
/-!
SUPPORT. What the dispatch and the ingestion case do not look at: `DELAY`, `PHASE`, `RX` and the script
(R104, R251). A cycle therefore leaves them alone, but for `DELAY`, which is the half-period.
-/

namespace Sys2Proof.Machine

/-- `s` with those elements of `u` that neither the dispatch nor an ingestion case looks at. -/
def State.withSurroundingsOf (s u : State) : State :=
  { s with delay := u.delay, phase := u.phase, rx := u.rx, inputs := u.inputs, cycles := u.cycles }

variable {s u : State} {hp hp2 : Duration} {rw : Level} {a : Addr} {d : Byte} {rx : Option Byte}

@[simp] theorem peek_withSurroundingsOf : peek a (s.withSurroundingsOf u) = peek a s := by
  rw [peek, peek, memRead, memRead]
  cases region a <;> rfl

theorem access_withSurroundingsOf :
    access d (s.withSurroundingsOf u) = (access d s).withSurroundingsOf u := by
  cases hdir : s.dir with
  | cpuWrites =>
    rw [access_of_write hdir, access_of_write (s := s.withSurroundingsOf u) hdir, memWrite_eq,
      memWrite_eq]
    rfl
  | cpuReads =>
    rw [access_of_read hdir, access_of_read (s := s.withSurroundingsOf u) hdir, readAccess_eq,
      readAccess_eq, peek_withSurroundingsOf]
    rfl

theorem dispatch_withSurroundingsOf :
    dispatch d (s.withSurroundingsOf u) = (dispatch d s).withSurroundingsOf u := by
  have hgate : changed (s.withSurroundingsOf u) = changed s := rfl
  rw [dispatch_eq, dispatch_eq, hgate, access_withSurroundingsOf]
  split <;> rfl

theorem kbdPoll_withSurroundingsOf :
    kbdPoll rx (s.withSurroundingsOf u) = (kbdPoll rx s).withSurroundingsOf u := by
  cases rx with
  | none => rfl
  | some b =>
    have hparams : (s.withSurroundingsOf u).params = s.params := rfl
    rw [kbdPoll, kbdPoll, hparams]
    split_ifs <;> rfl

/-- The half-period of a cycle reaches `DELAY` only, and the cycle changes neither `PHASE` nor what belongs
to the terminal and the script (R100, R251). -/
theorem cycle_eq_withSurroundingsOf (hp hp2 : Duration) : cycle hp2 rw a d rx s =
    (cycle hp rw a d rx s).withSurroundingsOf (s.setDelay hp2) := by
  have hpulse : (pulse hp2 rw s).setAddr a =
      ((pulse hp rw s).setAddr a).withSurroundingsOf (s.setDelay hp2) := by
    rw [pulse_eq, pulse_eq]
    rfl
  rw [cycle, hpulse, dispatch_withSurroundingsOf, kbdPoll_withSurroundingsOf, cycle]

/-- Settles O43: the cycle with either half-period is the one cycle, in surroundings that differ in `DELAY`. -/
theorem halfPeriodChangesOnlyDelay : Obligations.HalfPeriodChangesOnlyDelay := by
  intro s hp hp2 rw a d rx
  rw [cycle_eq_withSurroundingsOf hp hp2, cycle_eq_withSurroundingsOf hp hp]
  rfl

end Sys2Proof.Machine
end

section
/-!
SUPPORT. The clock phases (R102, R104, R105), and the eight phases of a cycle one after another (R101,
R108).
-/

namespace Sys2Proof.Machine

variable {s u : State}

/-- Settles O27: the four operations as their rows define them. -/
theorem clockPhases : Obligations.ClockPhases := by
  refine fun s => ⟨rfl, rfl, s.setPhase (s.phase + 1#3), rfl, rfl, ?_, rfl⟩
  rw [State.setPhase_phase, BitVec.toNat_add]
  rfl

theorem step_of_phase_zero (h : s.phase = 0#3) :
    step s = .next (((s.setDelay (sampleHalfPeriod s)).setClk .low).setPhase 1#3) := by
  rw [step, h]
  rfl

theorem step_of_phase_one (h : s.phase = 1#3) : step s = .next (s.setPhase 2#3) := by
  rw [step, h]
  change Host.Outcome.next (s.setPhase (s.phase + 1#3)) = _
  rw [h]
  rfl

/-- `s` after the pulse and the address sample of a cycle with the environment's values (R100). -/
def sampled (s : State) : State :=
  (pulse (current s).halfPeriod (current s).rw s).setAddr (current s).addr

/-- The phases P0 to P5 are the pulse and the address sample (R101, R103); the script and `RX` are
untouched. -/
theorem run_to_dispatch (h : s.phase = 0#3) (k : Nat) : Host.Core.run Sys2Proof.core (k + 6) s =
    Host.Core.run Sys2Proof.core k
      ((sampled s).withSurroundingsOf ((s.setDelay (current s).halfPeriod).setPhase 6#3)) := by
  rw [run_succ (step_of_phase_zero h), run_succ (step_of_phase_one rfl),
    run_succ (step_of_phase_two rfl), run_succ (step_of_phase_three rfl),
    run_succ (step_of_phase_four rfl), run_succ (step_of_phase_five rfl), dirUpdate_eq, sampled,
    pulse_eq]
  rfl

/-- P6 dispatches with the byte the script presents. -/
theorem step_dispatch_withSurroundingsOf (h : u.phase = 6#3) : step (s.withSurroundingsOf u) =
    .next ((dispatch (sampleData u) s).withSurroundingsOf (u.setPhase 7#3)) := by
  have hdata : sampleData (s.withSurroundingsOf u) = sampleData u := rfl
  rw [step_of_phase_six (s := s.withSurroundingsOf u) h, hdata, dispatch_withSurroundingsOf]
  rfl

/-- P7 polls `RX` and goes on to the next line of the script. -/
theorem step_poll_withSurroundingsOf (h : u.phase = 7#3) : step (s.withSurroundingsOf u) =
    .next ((kbdPoll (rxHead (arrive u)) s).withSurroundingsOf
      ((takeRx (arrive u)).setPhase 0#3).nextCycle) := by
  have hpoll : poll (s.withSurroundingsOf u) =
      kbdPoll (rxHead (arrive u)) (s.withSurroundingsOf (takeRx (arrive u))) := rfl
  rw [step_of_phase_seven (s := s.withSurroundingsOf u) h, hpoll, kbdPoll_withSurroundingsOf]
  rfl

/-- Settles O41: the first six phases are the cycle up to the dispatch, and the last two do what the cycle
does next, because neither looks at what sets the phases apart. -/
theorem eightPhasesAreOneCycle : Obligations.EightPhasesAreOneCycle := by
  intro s h
  rw [run_to_dispatch h 2, run_succ (step_dispatch_withSurroundingsOf rfl) 1,
    run_succ (step_poll_withSurroundingsOf rfl) 0,
    cycle_eq_withSurroundingsOf (current s).halfPeriod (current s).halfPeriod, ← h]
  rfl

end Sys2Proof.Machine
end

section
/-!
SUPPORT. The bus sampler's phases (R120, R122, R126): the direction switch without and with a change, the
closed gate, and the cycle that repeats the pair of the cycle before it (R240).
-/

namespace Sys2Proof.Machine

variable {s : State} {hp : Duration} {rw : Level} {a : Addr} {d : Byte} {rx : Option Byte}

/-- A sampled direction equal to `DIR` leaves the pins alone (R122). -/
theorem dirUpdate_of_same (h : Dir.ofLevel rw = s.dir) : dirUpdate rw s = s := if_pos h

/-- A change of direction stores it and reconfigures the pins (R122). -/
theorem dirUpdate_of_change (h : Dir.ofLevel rw ≠ s.dir) :
    dirUpdate rw s = s.switchTo (Dir.ofLevel rw) := if_neg h

/-- A snapshot of the pair it holds already changes nothing (R28). -/
theorem snapshot_of_repeated (hvalid : s.prevValid = true) (haddr : s.addr = s.prevAddr)
    (hdir : s.dir = s.prevDir) : s.snapshot = s := by
  cases s
  dsimp only at hvalid haddr hdir
  subst hvalid haddr hdir
  rfl

/-- With the pair equal to the snapshot the dispatch has no effect at all: the snapshot it takes is the one
that stands (R126 to R128). -/
theorem dispatch_of_repeated (hvalid : s.prevValid = true) (haddr : s.addr = s.prevAddr)
    (hdir : s.dir = s.prevDir) : dispatch d s = s := by
  have hgate : ¬ changed s = true := by simp [changed_eq_true, hvalid, haddr, hdir]
  rw [dispatch_eq, if_neg hgate, snapshot_of_repeated hvalid haddr hdir]

theorem exec_p2DirUpdate (s : State) :
    exec .p2DirUpdate s = .next ((dirUpdate (sampleRw s) s).setPhase 3#3) := rfl

theorem exec_p6Dispatch (s : State) :
    exec .p6Dispatch s = .next ((dispatch (sampleData s) s).setPhase 7#3) := rfl

/-- Settles O28: the two levels against the two stored directions, of which two pairs are a change. -/
theorem directionSwitchOnlyOnChange : Obligations.DirectionSwitchOnlyOnChange := by
  refine fun s => ⟨?_, ?_, ?_, ?_⟩ <;> intro hrw hdir <;> rw [exec_p2DirUpdate, hrw]
  · rw [dirUpdate_of_same (by rw [hdir, Dir.ofLevel])]
    rfl
  · rw [dirUpdate_of_same (by rw [hdir, Dir.ofLevel])]
    rfl
  · rw [dirUpdate_of_change (by rw [hdir, Dir.ofLevel]; decide)]
    rfl
  · rw [dirUpdate_of_change (by rw [hdir, Dir.ofLevel]; decide)]
    rfl

/-- Settles O29: the sample is the word of the address lines itself, so its bits are their levels. -/
theorem addressSampledBitByBit : Obligations.AddressSampledBitByBit :=
  fun s => ⟨(s.setAddr (sampleAddr s)).setPhase 6#3, rfl, fun _ _ => rfl, rfl⟩

/-- Settles O30: the closed gate leaves even the snapshot as it was. -/
theorem suppressedDispatchOnlyMovesOn : Obligations.SuppressedDispatchOnlyMovesOn := by
  intro s hvalid haddr hdir
  rw [exec_p6Dispatch, dispatch_of_repeated hvalid haddr hdir]
  rfl

/-- The one access that `DIR` and `ADDR` name (R126, R142, R143). -/
theorem access_eq_ite (d : Byte) (s : State) : access d s =
    if s.dir = .cpuWrites then memWrite s.addr d s
    else (memRead s.addr s).2.driveData (memRead s.addr s).1 := by
  cases hdir : s.dir with
  | cpuWrites => rw [access_of_write hdir, if_pos rfl]
  | cpuReads => rw [access_of_read hdir, if_neg Dir.noConfusion, driveResult]

/-- Settles O31: the access of either direction leaves the pair alone, so the snapshot taken after it holds
the pair before it (D23). -/
theorem openGateDispatchesOneAccess : Obligations.OpenGateDispatchesOneAccess := by
  intro s hopen
  refine ⟨_, exec_p6Dispatch s, ?_⟩
  rw [dispatch_eq, if_pos ((changed_eq_true s).mpr hopen), ← access_eq_ite, access_eq]
  rfl

/-! The elements below are the rest of what `ServedLast` speaks of; no ingestion case touches them. -/

@[simp] theorem kbdPoll_clk : (kbdPoll rx s).clk = s.clk := by rw [kbdPoll_eq]
@[simp] theorem kbdPoll_addr : (kbdPoll rx s).addr = s.addr := by rw [kbdPoll_eq]
@[simp] theorem kbdPoll_prevValid : (kbdPoll rx s).prevValid = s.prevValid := by rw [kbdPoll_eq]
@[simp] theorem kbdPoll_prevAddr : (kbdPoll rx s).prevAddr = s.prevAddr := by rw [kbdPoll_eq]

/-- The elements that a cycle with level `rw` and address `a` always leaves with these values (R100): the
clock, the sampled pair and its snapshot. -/
structure ServedLast (rw : Level) (a : Addr) (s : State) : Prop where
  clk : s.clk = .high
  addr : s.addr = a
  dir : s.dir = Dir.ofLevel rw
  prevValid : s.prevValid = true
  prevAddr : s.prevAddr = a
  prevDir : s.prevDir = Dir.ofLevel rw

theorem servedLast_cycle : ServedLast rw a (cycle hp rw a d rx s) where
  clk := by simp [cycle, pulse_eq]
  addr := by simp [cycle]
  dir := cycle_dir
  prevValid := by simp [cycle]
  prevAddr := by simp [cycle]
  prevDir := cycle_prevDir

/-- The pulse and the address sample find what they would set, `DELAY` excepted. -/
theorem setAddr_pulse_of_servedLast (h : ServedLast rw a s) :
    (pulse hp rw s).setAddr a = s.setDelay hp := by
  rw [pulse_eq, if_pos h.dir.symm, ← h.clk, ← h.dir, State.setAddr, ← h.addr]
  rfl

/-- A cycle that repeats the last one's level and address ingests a byte and sets `DELAY` (R126, R240). -/
theorem cycle_of_servedLast (h : ServedLast rw a s) :
    cycle hp rw a d rx s = kbdPoll rx (s.setDelay hp) := by
  have hgate : dispatch d (s.setDelay hp) = s.setDelay hp :=
    dispatch_of_repeated h.prevValid (h.addr.trans h.prevAddr.symm) (h.dir.trans h.prevDir.symm)
  rw [cycle, setAddr_pulse_of_servedLast h, hgate]

/-- Settles O42: the first cycle leaves its own pair in the snapshot, and the second finds it there. -/
theorem repeatedCycleServedOnce : Obligations.RepeatedCycleServedOnce :=
  fun _ _ _ _ _ _ _ _ _ => cycle_of_servedLast servedLast_cycle

end Sys2Proof.Machine
end

section
/-!
SUPPORT. The memory ports row by row (R160 to R168): the address a row's word holds, the cell it names, and
the rows that reach no cell.
-/

namespace Sys2Proof.Machine

variable {a b : Addr} {v : Byte} {s : State}

/-- The index in a bank of the address `{c, i}`, where `base` is the address `{c, 0}` (R81). -/
theorem toNat_append_sub_base {m n : Nat} {c : BitVec m} {base : BitVec (m + n)} (i : BitVec n)
    (hbase : base.toNat = c.toNat * 2 ^ n) : (c ++ i - base).toNat = i.toNat := by
  have haddr := Words.toNat_append_add c i
  rw [BitVec.toNat_sub_of_le (BitVec.le_def.mpr (by omega)), haddr, hbase, Nat.add_sub_cancel_left]

theorem toNat_ram1Addr (i : BitVec 12) : (0x0#4 ++ i : Addr).toNat = i.toNat := by
  rw [Words.toNat_append_add]
  exact Nat.zero_add _

theorem toNat_ram2Addr (i : BitVec 12) : (0xE#4 ++ i : Addr).toNat = 0xE000 + i.toNat :=
  Words.toNat_append_add _ _

theorem region_ram1Addr (i : BitVec 12) : region (0x0#4 ++ i) = .ram1 :=
  region_eq_ram1_iff.mpr (by rw [toNat_ram1Addr]; exact i.isLt)

theorem region_ram2Addr (i : BitVec 12) : region (0xE#4 ++ i) = .ram2 :=
  region_eq_ram2_iff.mpr (by rw [toNat_ram2Addr]; omega)

/-- A dispatched write to a location of `RAM1` or `RAM2` replaces its byte and no other location's (R142). -/
theorem peek_memWrite_of_ram (ha : region a = .ram1 ∨ region a = .ram2) :
    peek b (memWrite a v s) = if b.toNat = a.toNat then v else peek b s := by
  split
  · next h =>
    obtain rfl : b = a := BitVec.eq_of_toNat_eq h
    rw [peek_memWrite_self]
    rcases ha with h | h <;> rw [h] <;> rfl
  · next h => exact peek_memWrite_of_ne (mt (congrArg BitVec.toNat) h)

/-- The write rows of the two RAM banks do what the write dispatch does at the address of their word. -/
theorem exec_wrRam1_eq_memWrite (i : BitVec 12) (s : State) :
    exec (.wrRam1 i) s = .next (memWrite (0x0#4 ++ i) (sampleData s) s) := by
  rw [memWrite, region_ram1Addr]
  rfl

theorem exec_wrRam2_eq_memWrite (i : BitVec 12) (s : State) :
    exec (.wrRam2 i) s = .next (memWrite (0xE#4 ++ i) (sampleData s) s) := by
  rw [memWrite, region_ram2Addr]
  rfl

theorem memWrite_ram1Addr (i : BitVec 12) (v : Byte) (s : State) :
    memWrite (0x0#4 ++ i) v s = s.writeRam1 i.toNat v := by
  rw [memWrite, region_ram1Addr, ← toNat_ram1Addr]
  rfl

theorem memWrite_ram2Addr (i : BitVec 12) (v : Byte) (s : State) :
    memWrite (0xE#4 ++ i) v s = s.writeRam2 i.toNat v := by
  rw [memWrite, region_ram2Addr]
  exact congrArg (s.writeRam2 · v) (toNat_append_sub_base i rfl)

/-- Settles O12: among the cells by the law of the bank, among the addresses by that of the write dispatch. -/
theorem writeRam1StoresByte : Obligations.WriteRam1StoresByte := by
  refine fun i s => ⟨_, exec_wrRam1_eq_memWrite i s, fun j => ?_, fun b => ?_, ?_⟩
  · rw [memWrite_ram1Addr]
    exact Memory.read_write
  · rw [peek_memWrite_of_ram (.inl (region_ram1Addr i)), toNat_ram1Addr]
  · rw [memWrite_ram1Addr]
    rfl

/-- Settles O13 as O12 is settled: cell `i` of this bank is at the address `{0xE, i}`. -/
theorem writeRam2StoresByte : Obligations.WriteRam2StoresByte := by
  refine fun i s => ⟨_, exec_wrRam2_eq_memWrite i s, fun j => ?_, fun b => ?_, ?_⟩
  · rw [memWrite_ram2Addr]
    exact Memory.read_write
  · rw [peek_memWrite_of_ram (.inr (region_ram2Addr i)), toNat_ram2Addr]
  · rw [memWrite_ram2Addr]
    rfl

theorem exec_rdRam1 (i : BitVec 12) (s : State) :
    exec (.rdRam1 i) s = .next { s with dout := s.ram1.read i.toNat } := by
  rw [← toNat_ram1Addr i]
  rfl

theorem exec_rdRam2 (i : BitVec 12) (s : State) :
    exec (.rdRam2 i) s = .next { s with dout := s.ram2.read i.toNat } := by
  rw [← toNat_append_sub_base (c := 0xE#4) (base := Config.ram2Base) i rfl]
  rfl

theorem exec_rdRom (i : BitVec 8) (s : State) :
    exec (.rdRom i) s = .next { s with dout := s.rom.read i.toNat } := by
  rw [← toNat_append_sub_base (c := 0xFF#8) (base := Config.romBase) i rfl]
  rfl

/-- Settles O15: the index of the word is the index of the cell, and of the address in its bank. -/
theorem readRamDrivesCell : Obligations.ReadRamDrivesCell :=
  fun i s => ⟨exec_rdRam1 i s, exec_rdRam2 i s, peek_ram1_cell i s, peek_ram2_cell i s⟩

/-- Settles O16: the index of the word is that of the cell, which is at 0xFF00 above it on the bus. -/
theorem readRomDrivesCell : Obligations.ReadRomDrivesCell :=
  fun i s => ⟨exec_rdRom i s, peek_rom_cell i s⟩

theorem writeCycle_wrRom (a : Addr) (s : State) : writeCycle (wrRom a) s = .next s := rfl

theorem writeCycle_wrUnmapped (a : Addr) (s : State) : writeCycle (wrUnmapped a) s = .next s := rfl

theorem writeCycle_wrPiaUnused (a : Addr) (s : State) : writeCycle (wrPiaUnused a) s = .next s := rfl

theorem readCycle_rdUnmapped (a : Addr) (s : State) :
    readCycle (rdUnmapped a) s = .next { s with dout := 0x00#8 } := rfl

/-- Settles O14: the row of the ROM, the ten blocks without a register and the nine unmapped blocks run the
three handlers that drop the byte. -/
theorem writeWithoutBackingChangesNothing : Obligations.WriteWithoutBackingChangesNothing := by
  intro s
  refine ⟨fun _ => writeCycle_wrRom _ s, ?_⟩
  iterate 10 refine ⟨fun _ => writeCycle_wrPiaUnused _ s, ?_⟩
  iterate 8 refine ⟨fun _ => writeCycle_wrUnmapped _ s, ?_⟩
  exact fun _ => writeCycle_wrUnmapped _ s

/-- Settles O17: the nine unmapped blocks run the handler that answers 0x00. -/
theorem readUnmappedDrivesZero : Obligations.ReadUnmappedDrivesZero := by
  intro s
  iterate 8 refine ⟨fun _ => readCycle_rdUnmapped _ s, ?_⟩
  exact fun _ => readCycle_rdUnmapped _ s

end Sys2Proof.Machine
end

section
/-!
SUPPORT. The bus side of the peripheral registers (R181 to R190): the flag and the code of a byte bit by bit
and as numbers, the read rows without a side effect, and the two rows that change more than they store.
-/

namespace Sys2Proof.Machine

variable {v : Byte} {s : State} {k : Nat}

/-- A test on the low 7 bits as a test on a number (R10 (d)). -/
theorem charBits_eq_iff {c : BitVec 7} : charBits v = c ↔ v.toNat % 128 = c.toNat := by
  have h := Words.slice_eq_iff v 6 0 c
  rwa [pow_zero, Nat.div_one] at h

theorem setWidth_charBits (v : Byte) : (charBits v).setWidth 8 = BitVec.ofNat 8 (v.toNat % 128) := by
  rw [charBits_eq_iff.mp rfl, BitVec.ofNat_toNat]

/-- Settles O23: the two tests and the byte of any other code depend on the byte modulo 128 only. -/
theorem displayBytesByCode : Obligations.DisplayBytesByCode := by
  intro p v
  rw [dspBytes, setWidth_charBits]
  simp only [charBits_eq_iff]

theorem clearFlag_seven (v : Byte) : (clearFlag v).getLsbD 7 = false := by
  rw [getLsbD_clearFlag, decide_eq_false (not_not_intro rfl), Bool.and_false]

theorem clearFlag_of_lt (v : Byte) (h : k < 7) : (clearFlag v).getLsbD k = v.getLsbD k := by
  rw [getLsbD_clearFlag, decide_eq_true h.ne, Bool.and_true]

/-- A read row whose handler has no side effect changes `DOUT` only (R124, R187). -/
theorem readCycle_of_unchanged {handler : State → Byte × State} (h : handler s = (v, s)) :
    readCycle handler s = .next { s with dout := v } := by
  rw [readCycle, h]
  rfl

/-- Settles O18: the ten blocks without a register run the one handler that answers 0x00. -/
theorem readUnusedPeripheralDrivesZero : Obligations.ReadUnusedPeripheralDrivesZero := by
  intro s
  have hzero (a : Addr) : readCycle (rdPiaUnused a) s = .next { s with dout := 0x00#8 } :=
    readCycle_of_unchanged rfl
  iterate 9 refine ⟨fun _ => hzero _, ?_⟩
  exact fun _ => hzero _

theorem exec_rdKbdData (s : State) : exec .rdKbdData s =
    .next { s with dout := s.kbdData, kbdStatus := clearFlag s.kbdStatus } := rfl

/-- Settles O19: the status register is the old one with its flag cleared. -/
theorem readKbdDataConsumesFlag : Obligations.ReadKbdDataConsumesFlag := fun s =>
  ⟨_, exec_rdKbdData s, rfl, clearFlag_seven s.kbdStatus, fun _ => clearFlag_of_lt s.kbdStatus, rfl⟩

/-- Settles O20: the three handlers answer their register and hand the state back. -/
theorem readRegistersWithoutSideEffect : Obligations.ReadRegistersWithoutSideEffect := fun _ =>
  ⟨readCycle_of_unchanged rfl, readCycle_of_unchanged rfl, readCycle_of_unchanged rfl,
    peek_kbdStatusAddr, peek_dspDataAddr, peek_dspStatusAddr⟩

/-- Settles O21: the three handlers are the plain updates of their registers, and a read of the register's
address finds the byte. -/
theorem writeRegistersVerbatim : Obligations.WriteRegistersVerbatim := fun _ =>
  ⟨rfl, rfl, rfl, peek_kbdDataAddr, peek_kbdStatusAddr, peek_dspStatusAddr⟩

theorem exec_wrDspData (s : State) : exec .wrDspData s = .next { s with
    dspData := clearFlag (sampleData s), tx := s.tx ++ dspBytes s.params (sampleData s) } :=
  congrArg Host.Outcome.next (wrDspData_eq (sampleData s) s)

/-- Settles O22: the register ends as the sampled byte with its flag cleared. -/
theorem writeDspDataEmitsAndClears : Obligations.WriteDspDataEmitsAndClears := fun s =>
  ⟨_, exec_wrDspData s, rfl, clearFlag_seven (sampleData s), fun _ => clearFlag_of_lt (sampleData s), rfl⟩

end Sys2Proof.Machine
end

section
/-!
SUPPORT. Keyboard ingestion (R192 to R200): the row a poll's result selects, the rows that take a byte of
`RX`, and the poll by the head of the queue it finds.
-/

namespace Sys2Proof.Machine

variable {b : Byte} {s : State} {k : Nat}

theorem decodeRx_rxWord_of_empty (h : s.rx = []) : decodeRx s.params (rxWord s) = .kbdNone := by
  rw [rxWord, rxHead, h]
  exact decodeRx_noByte s.params 0#8

theorem rxWord_of_cons {q : List Byte} (h : s.rx = b :: q) : rxWord s = 1#1 ++ b := by
  rw [rxWord, rxHead, h, List.head?_cons, rxWordOf]

theorem exec_kbdLf (s : State) : exec .kbdLf s = .next { s with rx := s.rx.drop 1 } := by
  rw [List.drop_one]
  rfl

/-- Settles O24: the empty queue gives the word without a byte, the line feed the first row of R88. -/
theorem ingestNothingOrLineFeed : Obligations.IngestNothingOrLineFeed := by
  refine fun s => ⟨decodeRx_rxWord_of_empty, fun q h => ?_, rfl, exec_kbdLf s⟩
  rw [rxWord_of_cons h, decodeRx_byte, if_pos rfl]

theorem setFlag_seven (v : Byte) : (setFlag v).getLsbD 7 = true := by
  rw [getLsbD_setFlag, decide_eq_true rfl, Bool.or_true]

theorem setFlag_of_lt (v : Byte) (h : k < 7) : (setFlag v).getLsbD k = v.getLsbD k := by
  rw [getLsbD_setFlag, decide_eq_false h.ne, Bool.or_false]

theorem exec_kbdChar (b : Byte) (s : State) : exec (.kbdChar b) s = .next { s with
    kbdData := setFlag b, kbdStatus := setFlag s.kbdStatus, rx := s.rx.drop 1 } := by
  rw [List.drop_one]
  rfl

/-- Settles O25: both registers end with the flag forced over the old low bits, whatever the flag was. -/
theorem ingestCharacterStoresWithFlags : Obligations.IngestCharacterStoresWithFlags := by
  refine fun b s => ⟨fun hlf hdel => ?_, _, exec_kbdChar b s, setFlag_seven b, fun _ => setFlag_of_lt b,
    setFlag_seven s.kbdStatus, fun _ => setFlag_of_lt s.kbdStatus, rfl⟩
  rw [rxWordOf, decodeRx_byte, if_neg hlf, if_neg hdel]

/-- The delete row is the character row of the erase byte (R194, D12). -/
theorem exec_kbdDel (s : State) : exec .kbdDel s = exec (.kbdChar s.params.kbdEraseByte) s := rfl

/-- Settles O26: what O25 says of the erase byte holds of the delete row. -/
theorem ingestDeleteStoresEraseByte : Obligations.IngestDeleteStoresEraseByte := by
  intro s
  obtain ⟨-, t, hexec, hdata, hdataLow, hstatus, hstatusLow, hframe⟩ :=
    ingestCharacterStoresWithFlags s.params.kbdEraseByte s
  refine ⟨fun hne => ?_, t, (exec_kbdDel s).trans hexec, hexec, hdata, hstatus,
    fun k hk => ⟨hdataLow k hk, hstatusLow k hk⟩, hframe⟩
  rw [rxWordOf, decodeRx_byte, if_neg hne, if_pos rfl]

theorem exec_p7KbdPoll (s : State) :
    exec .p7KbdPoll s = .next ((poll s).setPhase 0#3).nextCycle := rfl

/-- The poll runs the case of the head of the queue, the bytes of this cycle included (R37, R199). -/
theorem poll_of_head {head : Option Byte} (h : (s.rx ++ (current s).rx).head? = head) :
    poll s = kbdPoll head (takeRx (arrive s)) := by
  rw [← h]
  rfl

theorem kbdPoll_of_lf (h : b = s.params.kbdLfByte) : kbdPoll (some b) s = s := by
  rw [kbdPoll, if_pos h]
  rfl

/-- Every byte but the line feed is stored, the delete byte as the erase byte (R194, R195). -/
theorem kbdPoll_of_stored (h : b ≠ s.params.kbdLfByte) : kbdPoll (some b) s =
    kbdChar (if b = s.params.kbdDelByte then s.params.kbdEraseByte else b) s := by
  by_cases hdel : b = s.params.kbdDelByte
  · rw [kbdPoll, if_neg h, if_pos hdel, if_pos hdel, kbdDel]
  · rw [kbdPoll_of_char h hdel, if_neg hdel]

/-- Settles O32: the frame of the poll, and its three cases by the head of the queue. -/
theorem pollTakesAtMostOneByte : Obligations.PollTakesAtMostOneByte := by
  refine fun s => ⟨_, exec_p7KbdPoll s, ?_, fun hhead => ?_, fun b hhead => ?_, ?_⟩
  · rw [poll_frame, List.drop_one]
    rfl
  · rw [poll_of_head hhead]
    exact ⟨rfl, rfl⟩
  · rw [poll_of_head hhead]
    split
    · next hlf =>
      rw [kbdPoll_of_lf (s := takeRx (arrive s)) hlf]
      exact ⟨rfl, rfl⟩
    · next hlf =>
      rw [kbdPoll_of_stored (s := takeRx (arrive s)) hlf]
      exact ⟨rfl, rfl⟩
  · rw [poll_frame]
    rfl

end Sys2Proof.Machine
end

section
/-!
SUPPORT. What the terminal can reach (R33, R216): before the poll `RX` is carried along unread, and the poll
changes of `KBD_STATUS` only the flag. That every operation answers (R210).
-/

namespace Sys2Proof.Machine

variable {s t : State} {k : Nat}

/-- Settles O11: no arm of `exec` is refused or faults, and a step runs one of its arms. -/
theorem everyOperationAnswersNext : Obligations.EveryOperationAnswersNext := ⟨exec_answers, step_answers⟩

theorem dirUpdate_setRx (rw : Level) (s : State) (q : List Byte) :
    dirUpdate rw (s.setRx q) = (dirUpdate rw s).setRx q := by
  rw [dirUpdate_eq, dirUpdate_eq]
  rfl

/-- `RX` belongs to the surroundings of a dispatch. -/
theorem dispatch_setRx (d : Byte) (s : State) (q : List Byte) :
    dispatch d (s.setRx q) = (dispatch d s).setRx q := by
  have hs : s.setRx q = s.withSurroundingsOf (s.setRx q) := rfl
  rw [hs, dispatch_withSurroundingsOf, dispatch_frame]
  rfl

/-- A phase other than P7 carries `RX` along and does not look at it (R199). -/
theorem step_setRx_of_ne_seven (q : List Byte) (hne : s.phase ≠ 7#3) (h : step s = .next t) :
    step (s.setRx q) = .next (t.setRx q) := by
  obtain ⟨hp, rfl⟩ | ⟨hp, rfl⟩ | ⟨hp, rfl⟩ | ⟨hp, rfl⟩ | ⟨hp, rfl⟩ | ⟨hp, rfl⟩ | ⟨hp, rfl⟩ |
    ⟨hp, -⟩ := step_cases h
  · exact step_of_phase_zero (s := s.setRx q) hp
  · exact step_of_phase_one (s := s.setRx q) hp
  · rw [step_of_phase_two (s := s.setRx q) hp, dirUpdate_setRx]
    rfl
  · exact step_of_phase_three (s := s.setRx q) hp
  · exact step_of_phase_four (s := s.setRx q) hp
  · exact step_of_phase_five (s := s.setRx q) hp
  · rw [step_of_phase_six (s := s.setRx q) hp, dispatch_setRx]
    rfl
  · exact absurd hp hne

/-- No ingestion case touches the low bits of `KBD_STATUS` (R192 to R195). -/
theorem kbdPoll_kbdStatus_of_lt (rx : Option Byte) (s : State) (h : k < 7) :
    (kbdPoll rx s).kbdStatus.getLsbD k = s.kbdStatus.getLsbD k := by
  cases rx with
  | none => rfl
  | some b =>
    by_cases hlf : b = s.params.kbdLfByte
    · rw [kbdPoll_of_lf hlf]
    · rw [kbdPoll_of_stored hlf]
      exact setFlag_of_lt s.kbdStatus h

theorem poll_kbdStatus_of_lt (s : State) (h : k < 7) :
    (poll s).kbdStatus.getLsbD k = s.kbdStatus.getLsbD k :=
  kbdPoll_kbdStatus_of_lt _ (takeRx (arrive s)) h

/-- Settles O37: at P7 both polls have the frame of `poll_frame`; at every other phase the two steps differ in
`RX` alone. -/
theorem terminalReachesOnlyKeyboardRegisters : Obligations.TerminalReachesOnlyKeyboardRegisters := by
  intro s q t u ht hu
  by_cases hp : s.phase = 7#3
  · cases (step_of_phase_seven hp).symm.trans ht
    cases (step_of_phase_seven (s := s.setRx q) hp).symm.trans hu
    refine ⟨?_, fun k hk => ?_⟩
    · rw [poll_frame s, poll_frame (s.setRx q)]
      rfl
    · exact (poll_kbdStatus_of_lt (s.setRx q) hk).trans (poll_kbdStatus_of_lt s hk).symm
  · cases (step_setRx_of_ne_seven q hp ht).symm.trans hu
    exact ⟨rfl, fun _ _ => rfl⟩

end Sys2Proof.Machine
end
